-- ==== Sys2Proof/Word.lean ====
section
/-! DEFINITION. The words of the block: bytes, halves, 32-bit words and slot indices. -/
namespace Sys2Proof

/-- One byte of a packet or buffer (R22). -/
abbrev Byte := BitVec 8

/-- A 16-bit packet field or register field: port, length, EtherType, checksum word (R216). -/
abbrev Half := BitVec 16

/-- A 32-bit register, command word, IPv4 address or sequence number (R206, R301). -/
abbrev Word := BitVec 32

/-- A connection or service index: the 4-bit CIDX field bounds both tables at 16 slots (R10, R11, R301). -/
abbrev Slot := Fin 16

end Sys2Proof
end

