-- ==== Sys2Proof/Syntax.lean ====
section
/-! DEFINITION. The commands of the block (R3: "instruction" means "command"), one constructor per row of
spec/opcode_table.json (R305).  Register operands ARG0 and ARG1 are state, not syntax (R105). -/
namespace Sys2Proof

/-- A decoded command.  `cidx` is the CIDX field, the other argument the IMM field cut to the width R302 uses. -/
inductive Instr where
  /-- R400 INIT. -/
  | init
  /-- R401 POLL. -/
  | poll
  /-- R403 ETH_ACQ: IMM = EtherType. -/
  | ethAcq (etherType : Half)
  /-- R404 ETH_TX: IMM = payload length. -/
  | ethTx (len : Half)
  /-- R405 SET_MORE: IMM[0] = register (1) or clear (0). -/
  | setMore (register : Bool)
  /-- R406 ETH_RX: IMM = frame length. -/
  | ethRx (len : Half)
  /-- R450 ARP_RX: IMM = ARP packet length. -/
  | arpRx (len : Half)
  /-- R501 CSUM: IMM = length; seed in ARG0, address in ARG1. -/
  | csum (len : Half)
  /-- R550 IP_RX: IMM = datagram length. -/
  | ipRx (len : Half)
  /-- R555 IP_ACQ: IMM[7:0] = protocol; destination in ARG0. -/
  | ipAcq (proto : Byte)
  /-- R560 IP_TX: IMM = IPv4 payload length. -/
  | ipTx (len : Half)
  /-- R600 TCP_RX: IMM = segment length. -/
  | tcpRx (len : Half)
  /-- R630 TCP_FIND. -/
  | tcpFind
  /-- R650 TCP_ACQ: CIDX = connection. -/
  | tcpAcq (cidx : Slot)
  /-- R660 TCP_TX: CIDX = connection, IMM = data length. -/
  | tcpTx (cidx : Slot) (len : Half)
  /-- R670 TCP_WAIT: CIDX = connection. -/
  | tcpWait (cidx : Slot)
  /-- R680 TCP_CLOSE: CIDX = connection. -/
  | tcpClose (cidx : Slot)
  /-- R700 SVC_REG: CIDX = service slot, IMM = port; private word in ARG0. -/
  | svcReg (cidx : Slot) (port : Half)
  /-- R710 CB_RET: IMM = return value. -/
  | cbRet (value : Half)
  deriving DecidableEq, Repr

end Sys2Proof
end

