-- ==== Sys2Proof/Decode.lean ====
section
/-! DEFINITION. The command word (R300-R307): its fields, the decoder, which rejects by name, and the encoder. -/
namespace Sys2Proof

/-- Why a word is no command (R306, R303). -/
inductive DecodeError where
  /-- R306: OPC is not in the opcode map. -/
  | illegalOpc
  /-- R303: RSV is not 0, or a field that must be 0 is not. -/
  | rsvBits
  deriving DecidableEq, Repr

/-- R301: OPC is bits [7:0]. -/
def opcField (w : Word) : Byte := w.extractLsb' 0 8

/-- R301: CIDX is bits [11:8]. -/
def cidxField (w : Word) : Slot := (w.extractLsb' 8 4).toFin

/-- R301: IMM is bits [31:16]. -/
def immField (w : Word) : Half := w.extractLsb' 16 16

/-- R405: SET_MORE's operand is IMM[0], bit 16 of the word. -/
def immBit (w : Word) : Bool := w.getLsbD 16

/-- R555: IP_ACQ's operand is IMM[7:0], bits [23:16] of the word. -/
def immByte (w : Word) : Byte := w.extractLsb' 16 8

/-- R303: the bits of `mask` must be 0. -/
def mustBeZero (w mask : Word) (i : Instr) : Except DecodeError Instr :=
  if w &&& mask = 0 then .ok i else .error .rsvBits

/-- R300-R306: total on every word.  The mask of an arm holds RSV and the CIDX and IMM bits that must be 0
for that command (R303, R305). -/
def decode (w : Word) : Except DecodeError Instr :=
  match (opcField w).toNat with
  | 0x01 => mustBeZero w 0xFFFFFF00 .init
  | 0x02 => mustBeZero w 0xFFFFFF00 .poll
  | 0x03 => mustBeZero w 0x0000FF00 (.ethAcq (immField w))
  | 0x04 => mustBeZero w 0x0000FF00 (.ethTx (immField w))
  | 0x05 => mustBeZero w 0xFFFEFF00 (.setMore (immBit w))
  | 0x06 => mustBeZero w 0x0000FF00 (.ethRx (immField w))
  | 0x10 => mustBeZero w 0x0000FF00 (.arpRx (immField w))
  | 0x18 => mustBeZero w 0x0000FF00 (.csum (immField w))
  | 0x20 => mustBeZero w 0x0000FF00 (.ipRx (immField w))
  | 0x21 => mustBeZero w 0xFF00FF00 (.ipAcq (immByte w))
  | 0x22 => mustBeZero w 0x0000FF00 (.ipTx (immField w))
  | 0x30 => mustBeZero w 0x0000FF00 (.tcpRx (immField w))
  | 0x31 => mustBeZero w 0xFFFFFF00 .tcpFind
  | 0x32 => mustBeZero w 0xFFFFF000 (.tcpAcq (cidxField w))
  | 0x33 => mustBeZero w 0x0000F000 (.tcpTx (cidxField w) (immField w))
  | 0x34 => mustBeZero w 0xFFFFF000 (.tcpWait (cidxField w))
  | 0x35 => mustBeZero w 0xFFFFF000 (.tcpClose (cidxField w))
  | 0x40 => mustBeZero w 0x0000F000 (.svcReg (cidxField w) (immField w))
  | 0x41 => mustBeZero w 0x0000FF00 (.cbRet (immField w))
  | _ => .error .illegalOpc

/-- R301: `word = IMM << 16 | RSV << 12 | CIDX << 8 | OPC`, with RSV = 0. -/
def commandWord (opc : Byte) (cidx : Slot) (imm : Half) : Word :=
  imm ++ (0#4 ++ (BitVec.ofFin cidx : BitVec 4) ++ opc)

/-- R305: the word of each command. -/
def encode : Instr → Word
  | .init => commandWord 0x01 0 0
  | .poll => commandWord 0x02 0 0
  | .ethAcq et => commandWord 0x03 0 et
  | .ethTx n => commandWord 0x04 0 n
  | .setMore on => commandWord 0x05 0 (BitVec.setWidth 16 (BitVec.ofBool on))
  | .ethRx n => commandWord 0x06 0 n
  | .arpRx n => commandWord 0x10 0 n
  | .csum n => commandWord 0x18 0 n
  | .ipRx n => commandWord 0x20 0 n
  | .ipAcq p => commandWord 0x21 0 (BitVec.setWidth 16 p)
  | .ipTx n => commandWord 0x22 0 n
  | .tcpRx n => commandWord 0x30 0 n
  | .tcpFind => commandWord 0x31 0 0
  | .tcpAcq i => commandWord 0x32 i 0
  | .tcpTx i n => commandWord 0x33 i n
  | .tcpWait i => commandWord 0x34 i 0
  | .tcpClose i => commandWord 0x35 i 0
  | .svcReg j port => commandWord 0x40 j port
  | .cbRet v => commandWord 0x41 0 v

/-- The command the decoder reads from an opcode-table word of `nbits` bits (every row of the table has one
32-bit word, R307). -/
def decodeTableWord (nbits w : Nat) : Option Instr :=
  match decode (BitVec.ofNat 32 (w % 2 ^ nbits)) with
  | .ok i => some i
  | .error _ => none

end Sys2Proof
end

