-- ==== Sys2Proof/Config.lean ====
section
/-! DEFINITION. The block's implementation parameters (R10-R17, R240), and the one value the spec
leaves free: what the transport puts on the wire after a TX overwrite (R231, U3). -/
namespace Sys2Proof

/-- The named parameters of R10-R17 and R240.  They stand in `State` as constant data, so that every
statement over all states quantifies over all parameters, as R10's section asks; no step changes them. -/
structure Config where
  /-- R10 `P_NCONN`: number of TCP connection slots. -/
  nConn : Nat
  /-- R11 `P_NSERV`: number of service-registry slots. -/
  nServ : Nat
  /-- R12 `P_MAC`: byte 0 of the address is the most significant byte (R115). -/
  mac : BitVec 48
  /-- R13, R116 `P_LOCAL_IP`. -/
  localIp : Word
  /-- R14 `P_REMOTE_IP`: "the block itself never reads it". -/
  remoteIp : Word
  /-- R15 `P_ISS`. -/
  iss : Word
  /-- R16 `P_TCP_WINDOW`. -/
  tcpWindow : Half
  /-- R17 `P_RXBUF_SIZE`. -/
  rxBufSize : Nat
  /-- R17 `P_TXBUF_SIZE`. -/
  txBufSize : Nat
  /-- R240 `P_HOST_BASE`: where the host address space sits in the host processor's map. -/
  hostBase : Nat
  deriving DecidableEq, Repr

/-- The bounds R10, R11 and R17 put on the parameters. -/
abbrev Config.wf (c : Config) : Prop :=
  (1 ≤ c.nConn ∧ c.nConn ≤ 16) ∧ (1 ≤ c.nServ ∧ c.nServ ≤ 16) ∧
    (54 ≤ c.rxBufSize ∧ c.rxBufSize ≤ 0x4000) ∧ (54 ≤ c.txBufSize ∧ c.txBufSize ≤ 0x4000)

/-- The spec's own example values (R10-R17; the common start state of 95_test_vectors.md).
DESIGN CHOICE (log 1), unsafe: `State.reset` has to name some parameters.  `remoteIp` and `hostBase` have
no example value in the spec. -/
def Config.sample : Config where
  nConn := 2
  nServ := 1
  mac := 0x020000000001#48
  localIp := 0xC0A80701#32
  remoteIp := 0xC0A80702#32
  iss := 0x00010000#32
  tcpWindow := 0x0200#16
  rxBufSize := 1536
  txBufSize := 1536
  hostBase := 0

/-- The free value of R231 and U3 ("any value"): the bytes the transport puts on the wire for a frame it
completes while F_TX_OVERWRITE is 1.  Applied to the counter `State.freeCount`; it has no body, so nothing can
be proved of it (log 2). -/
opaque Config.freeWireByte : Nat → Byte

end Sys2Proof
end

