-- ==== Sys2Proof/Machine/State.lean ====
section
/-! DEFINITION. The state of the block as plain data (10_state.md), the reasons a step could stop, and the
state after hardware reset (R900). -/
namespace Sys2Proof.Machine

/-! ## Names the spec gives to small sets of values -/

/-- R802: the command errors.  ERR = 0 (no error) is the absence of one, see `State.err`. -/
inductive CmdError where
  /-- 1: OPC is not in the opcode map. -/
  | illegalOpc
  /-- 2: RSV or a field that must be 0 is not 0. -/
  | rsvBits
  /-- 3: a command is suspended in a hold. -/
  | busy
  /-- 4: a command outside the nested set during a callback. -/
  | reentrant
  /-- 5: CIDX out of range. -/
  | cidx
  /-- 6: the connection slot is free. -/
  | connFree
  /-- 7: a length or address names bytes outside the buffer. -/
  | range
  /-- 8: TCP_TX without a pending reply. -/
  | noReply
  /-- 9: the EtherType field of the TX buffer is 0 at a send. -/
  | etype0
  /-- 10: CB_RET while SEQ is IDLE. -/
  | notInCb
  deriving DecidableEq, Repr

/-- R112: CB_INFO.KIND. -/
inductive CbKind where
  /-- 0: no callback outstanding. -/
  | none
  /-- 1. -/
  | accept
  /-- 2. -/
  | process
  /-- 3. -/
  | closed
  /-- 4. -/
  | more
  /-- 5. -/
  | udpRx
  deriving DecidableEq, Repr

/-- R131: the connection states. -/
inductive TcpState where
  /-- 0. -/
  | closed
  /-- 1. -/
  | synReceived
  /-- 2. -/
  | established
  /-- 3. -/
  | finWait1
  /-- 4. -/
  | closing
  /-- 5. -/
  | closeWait
  deriving DecidableEq, Repr

/-- R860: the codes of the debug log port. -/
inductive LogCode where
  /-- 1 LOG_ETH_TYPE. -/
  | ethType
  /-- 2 LOG_ARP_TYPE. -/
  | arpType
  /-- 3 LOG_ICMP. -/
  | icmp
  /-- 4 LOG_IP_PROTO. -/
  | ipProto
  /-- 5 LOG_TX_ETYPE0. -/
  | txEtype0
  deriving DecidableEq, Repr

/-! ## The two register files -/

/-- R130: one connection slot.  The slot is free exactly when `remoteIp = 0` (R134). -/
structure Conn where
  remoteIp : Word
  localPort : Half
  remotePort : Half
  localSeq : Word
  remoteSeq : Word
  state : TcpState
  /-- R132 REPLY_PENDING. -/
  replyPending : Bool
  /-- Index of the matched service (R130, R133). -/
  svc : Slot
  /-- The opaque per-connection user word; the host may write it. -/
  priv : Word
  deriving DecidableEq, Repr

/-- R130: every field of every slot is 0 after reset. -/
def Conn.zero : Conn where
  remoteIp := 0
  localPort := 0
  remotePort := 0
  localSeq := 0
  remoteSeq := 0
  state := .closed
  replyPending := false
  svc := 0
  priv := 0

/-- R140: one service-registry slot. -/
structure Svc where
  port : Half
  valid : Bool
  priv : Word
  deriving DecidableEq, Repr

/-- R140: all 0 after reset. -/
def Svc.zero : Svc where
  port := 0
  valid := false
  priv := 0

/-! ## The sequencer and the hidden continuations (R102, R103) -/

/-- R602: the parsed fields of a received segment, "all read at entry ... and kept in the command's
continuation"; `len` is the segment length L. -/
structure Segment where
  srcIp : Word
  sport : Half
  dport : Half
  sseq : Word
  sack : Word
  off : BitVec 4
  flags : BitVec 5
  len : Nat
  deriving DecidableEq, Repr

/-- What a receive command still does when its handler ends. -/
inductive Tail where
  /-- POLL: re-arm, RESULT <- 3 (R401). -/
  | poll
  /-- ETH_RX, IP_RX, TCP_RX: RESULT <- 0, no re-arm (R406, R550, R600). -/
  | direct
  deriving DecidableEq, Repr

/-- Where a command suspended on a callback goes on after CB_RET (K_OUTER of R830). -/
inductive CallbackK where
  /-- R401: POLL's MORE callback. -/
  | more
  /-- R553: the UDP dispatcher. -/
  | udp (tail : Tail)
  /-- R611: ACCEPT for slot `conn`. -/
  | accept (tail : Tail) (seg : Segment) (conn : Slot)
  /-- R616: PROCESS for slot `conn`. -/
  | process (tail : Tail) (seg : Segment) (conn : Slot)
  /-- R620: CLOSED for slot `conn`. -/
  | closed (tail : Tail) (seg : Segment) (conn : Slot)
  deriving DecidableEq, Repr

/-- The two commands that can hold and may also be nested in a callback (R834, R842). -/
inductive CommandHold where
  /-- R670 TCP_WAIT. -/
  | tcpWait (conn : Slot)
  /-- R680 TCP_CLOSE, before its build. -/
  | tcpClose (conn : Slot)
  deriving DecidableEq, Repr

/-- Where a command suspended in a hold goes on when TX_PROTO is 0 (R840): one constructor per place of R842. -/
inductive HoldK where
  /-- TCP_WAIT or TCP_CLOSE as an outer command. -/
  | command (k : CommandHold)
  /-- R611: before the SYN+ACK. -/
  | synAck (tail : Tail) (seg : Segment) (conn : Slot)
  /-- R613: before the RST. -/
  | rst (tail : Tail) (seg : Segment)
  /-- R616: ESTABLISHED, before its ACK. -/
  | estReply (tail : Tail) (seg : Segment) (conn : Slot)
  /-- R616: ESTABLISHED, after its ACK. -/
  | estDone (tail : Tail) (seg : Segment) (conn : Slot)
  /-- R617: FIN_WAIT_1, before its ACK. -/
  | finReply (tail : Tail) (seg : Segment) (conn : Slot)
  /-- R617: FIN_WAIT_1, after its ACK. -/
  | finDone (tail : Tail) (seg : Segment) (conn : Slot)
  deriving DecidableEq, Repr

/-- R102 and R103 in one: SEQ together with K_OUTER and K_NESTED, so that a continuation exists exactly in the
SEQ values that have one. -/
inductive Sequencer where
  /-- SEQ = 0 IDLE, no continuation. -/
  | idle
  /-- SEQ = 1 HOLD. -/
  | hold (outer : HoldK)
  /-- SEQ = 2 CB_WAIT. -/
  | cbWait (outer : CallbackK)
  /-- SEQ = 3 CB_HOLD: a nested command holds during a callback. -/
  | cbHold (outer : CallbackK) (nested : CommandHold)
  deriving DecidableEq, Repr

/-! ## Outputs, and the moves of the two other agents -/

/-- R150, R861: the events of the block's output trace. -/
inductive Event where
  /-- R404: a frame handed to the transport, with its length. -/
  | frameSent (bytes : List Byte) (length : Nat)
  /-- R410, R400: "ready for next frame". -/
  | rxRearm
  /-- R860. -/
  | log (code : LogCode) (arg : Word)
  deriving DecidableEq, Repr

/-- R210: the widths of a host access. -/
inductive Width where
  /-- 8 bits. -/
  | w8
  /-- 16 bits. -/
  | w16
  /-- 32 bits. -/
  | w32
  deriving DecidableEq, Repr

/-- R210: what the bus answers to one host access. -/
structure BusResponse where
  error : Bool
  data : Word
  deriving DecidableEq, Repr

/-- R221: one atomic step of one agent (the model's own list of who moves next, log 3). -/
inductive Turn where
  /-- The host reads. -/
  | hostRead (w : Width) (addr : BitVec 16)
  /-- The host writes; a 32-bit write to CMD issues a command (R104). -/
  | hostWrite (w : Width) (addr : BitVec 16) (data : Word)
  /-- R851: the transport offers a frame. -/
  | deliver (frame : List Byte)
  /-- R852: the transport completes the frame in flight. -/
  | txComplete
  /-- R840: the block resumes a hold, if it may. -/
  | resume
  /-- R900: hardware reset. -/
  | hardReset
  deriving DecidableEq, Repr

/-- The bytes of RXBUF and TXBUF by buffer address (R200): (address, byte) pairs, addresses strictly rising, no
entry equal to what an unlisted address reads as (0, R117 and R121). -/
abbrev Memory := List Host.Cell

/-- All the state of the block (10_state.md), its parameters, and the model's own bookkeeping. -/
structure State where
  /-- The parameters (R10-R17); LOCAL_IP (R116), PARAMS and PARAMS2 read them. -/
  cfg : Config
  /-- R104 CMD_LAST. -/
  cmdLast : Word
  /-- R105. -/
  arg0 : Word
  /-- R105. -/
  arg1 : Word
  /-- R106. -/
  result : Word
  /-- R110 STATUS.DONE. -/
  done : Bool
  /-- R110 STATUS.ERRV and STATUS.ERR: ERRV = 1 exactly when there is an error, ERR is its code, else 0. -/
  err : Option CmdError
  /-- R110, R231 STATUS.F_TX_OVERWRITE. -/
  fTxOverwrite : Bool
  /-- R102, R103 SEQ, K_OUTER, K_NESTED. -/
  seq : Sequencer
  /-- R111: DONE_EN, CB_EN, ERR_EN, FAULT_EN are bits 0 to 3. -/
  irqEn : BitVec 4
  /-- R112 CB_INFO.KIND. -/
  cbKind : CbKind
  /-- R112 CB_INFO.CONN. -/
  cbConn : Slot
  /-- R112 CB_INFO.SVC. -/
  cbSvc : Slot
  /-- CB_ADDR. -/
  cbAddr : Half
  /-- CB_LEN. -/
  cbLen : Half
  /-- R113 CB_RETVAL. -/
  cbRetval : Half
  /-- R114 ERR_CMD. -/
  errCmd : Word
  /-- R115 MAC. -/
  mac : BitVec 48
  /-- R118 RX_LEN. -/
  rxLen : Half
  /-- R119 RX_ARMED. -/
  rxArmed : Bool
  /-- R120 TX_PROTO. -/
  txProto : Half
  /-- R122 TX_LEN. -/
  txLen : Half
  /-- R123 MORE_CB. -/
  moreCb : Bool
  /-- R117 RXBUF and R121 TXBUF. -/
  mem : Memory
  /-- R130 the connection table; slots at and beyond P_NCONN do not exist and stay as reset left them. -/
  conns : Vector Conn 16
  /-- R140 the service registry; slots at and beyond P_NSERV do not exist and stay as reset left them. -/
  svcs : Vector Svc 16
  /-- R861 the event trace, oldest first. -/
  trace : List Event
  /-- The model's own: what the bus answered to the last host access (R210; log 4, DESIGN CHOICE). -/
  bus : BusResponse
  /-- The model's own: the frames the transport has finished putting on the wire, oldest first (R230, R231;
  log 2, and log 19 for their number and length after an overwrite, DESIGN CHOICE). -/
  wire : List (List Byte)
  /-- The model's own: how many free bytes have been used (log 2, DESIGN CHOICE). -/
  freeCount : Nat
  /-- The model's own: the coming moves of the agents, next one first (R221; log 3, DESIGN CHOICE). -/
  agenda : List Turn
  deriving DecidableEq, Repr

/-- Why a step faults: never.  The spec has no stop ("Nothing in this core is fatal to the process", R804), so this
type has no value; a TX overwrite is the status bit F_TX_OVERWRITE (R231), not a stop.  Safe: no claim can use it. -/
inductive Fault where
  deriving DecidableEq, Repr

/-- Why a step is refused. -/
inductive Refusal where
  /-- Raised only by an arm of `exec` whose instruction has no meaning yet.  Safe: the run stops.  No arm of this
  model raises it: every command has its meaning. -/
  | notModelled (mnemonic : String)
  deriving DecidableEq, Repr

/-- R900: the values hardware reset gives, for any parameters. -/
def State.resetWith (c : Config) : State where
  cfg := c
  cmdLast := 0
  arg0 := 0
  arg1 := 0
  result := 0
  done := false
  err := none
  fTxOverwrite := false
  seq := .idle
  irqEn := 0
  cbKind := .none
  cbConn := 0
  cbSvc := 0
  cbAddr := 0
  cbLen := 0
  cbRetval := 0
  errCmd := 0
  mac := c.mac
  rxLen := 0
  rxArmed := true
  txProto := 0
  txLen := 0
  moreCb := false
  mem := []
  conns := Vector.replicate 16 Conn.zero
  svcs := Vector.replicate 16 Svc.zero
  trace := []
  bus := { error := false, data := 0 }
  wire := []
  freeCount := 0
  agenda := []

/-- R900 with the spec's example parameters (log 1). -/
def State.reset : State := State.resetWith Config.sample

end Sys2Proof.Machine
end

