-- ==== Sys2Proof/Machine/Memory.lean ====
section
/-! DEFINITION. The buffer memory (R117, R121, R200): reading, writing, and its canonical form. -/
namespace Sys2Proof.Machine

/-- R117, R121: RXBUF and TXBUF are all 0 at reset, so an unlisted address reads 0. -/
def Memory.unlisted : Byte := 0

/-- The byte at an address. -/
def Memory.read : Memory → Nat → Byte
  | [], _ => Memory.unlisted
  | (a, b) :: m, x => if x = a then b else Memory.read m x

/-- The cell for a byte: none for a byte equal to what an unlisted address reads as. -/
def Memory.cell (x : Nat) (v : Byte) : Memory :=
  if v = Memory.unlisted then [] else [(x, v)]

/-- Write one byte, keeping the canonical form. -/
def Memory.write : Memory → Nat → Byte → Memory
  | [], x, v => Memory.cell x v
  | (a, b) :: m, x, v =>
    if x < a then Memory.cell x v ++ (a, b) :: m
    else if x = a then Memory.cell x v ++ m
    else (a, b) :: Memory.write m x v

/-- Write bytes at rising addresses. -/
def Memory.writeBytes : Memory → Nat → List Byte → Memory
  | m, _, [] => m
  | m, x, v :: vs => Memory.writeBytes (Memory.write m x v) (x + 1) vs

/-- The canonical form: addresses strictly rising, no listed byte equal to the unlisted one. -/
abbrev Memory.wf (m : Memory) : Prop :=
  m.Pairwise (fun c d => c.1 < d.1) ∧ ∀ c ∈ m, c.2 ≠ Memory.unlisted

/-- The `n` bytes from address `a` on. -/
def Memory.bytes (m : Memory) (a : Nat) : Nat → List Byte
  | 0 => []
  | n + 1 => Memory.read m a :: Memory.bytes m (a + 1) n

end Sys2Proof.Machine
end

