-- ==== Sys2Proof/Machine/Operands.lean ====
section
/-! DEFINITION. Operand forms: buffer addresses and byte order (R20-R23, R200-R207), the fixed numbers of the
wire formats (R18, R320-R350), the register files' accessors, the parsed segment (R602, R603). -/
namespace Sys2Proof.Machine

/-! ## Named constants -/

/-- R23 `RXB`. -/
def rxBase : Nat := 0x4000
/-- R23 `TXB`. -/
def txBase : Nat := 0x8000
/-- R321: EtherType IPv4. -/
def etherTypeIpv4 : Half := 0x0800
/-- R321: EtherType ARP. -/
def etherTypeArp : Half := 0x0806
/-- R325: ARP hardware type Ethernet. -/
def arpHardwareType : Half := 1
/-- R325: ARP protocol type IPv4. -/
def arpProtocolType : Half := 0x0800
/-- R325: ARP opcode REQUEST. -/
def arpRequest : Half := 1
/-- R325: ARP opcode REPLY. -/
def arpReplyOpcode : Half := 2
/-- R331. -/
def protoIcmp : Byte := 1
/-- R331, R18. -/
def protoTcp : Byte := 6
/-- R331. -/
def protoUdp : Byte := 17
/-- R18: TTL of every built datagram. -/
def ipv4Ttl : Byte := 64
/-- R330: version 4, header length 5 words. -/
def ipv4VersionIhl : Byte := 0x45
/-- R340: data offset 5 words in bits [7:4]. -/
def tcpOffsetByte : Byte := 0x50
/-- R345 FIN. -/
def tcpFin : Byte := 0x01
/-- R345 SYN. -/
def tcpSyn : Byte := 0x02
/-- R345 RST. -/
def tcpRst : Byte := 0x04
/-- R345 PSH. -/
def tcpPsh : Byte := 0x08
/-- R345 ACK. -/
def tcpAck : Byte := 0x10
/-- R320: bytes of an Ethernet header. -/
def ethHeader : Nat := 14
/-- R330: bytes of an IPv4 header. -/
def ipHeader : Nat := 20
/-- R340: bytes of a TCP header the block builds. -/
def tcpHeader : Nat := 20
/-- R325: bytes of an ARP packet. -/
def arpPacket : Nat := 28

/-! ## Byte order (R205, R207): big-endian -/

/-- R22 MemWrite of 2 bytes: the most significant byte first. -/
def be16 (v : Half) : List Byte := [v.extractLsb' 8 8, v.extractLsb' 0 8]

/-- R22 MemWrite of 4 bytes: the most significant byte first. -/
def be32 (v : Word) : List Byte :=
  [v.extractLsb' 24 8, v.extractLsb' 16 8, v.extractLsb' 8 8, v.extractLsb' 0 8]

/-- R115: MAC bytes 0 to 5. -/
def macBytes (m : BitVec 48) : List Byte :=
  [m.extractLsb' 40 8, m.extractLsb' 32 8, m.extractLsb' 24 8, m.extractLsb' 16 8, m.extractLsb' 8 8, m.extractLsb' 0 8]

/-- R22 `MemRead(a, 2)`. -/
def Memory.read16 (m : Memory) (a : Nat) : Half := Memory.read m a ++ Memory.read m (a + 1)

/-- R22 `MemRead(a, 4)`. -/
def Memory.read32 (m : Memory) (a : Nat) : Word := Memory.read16 m a ++ Memory.read16 m (a + 2)

/-- The upper 16 bits of a 32-bit value. -/
def hiHalf (w : Word) : Half := w.extractLsb' 16 16

/-- The lower 16 bits of a 32-bit value. -/
def loHalf (w : Word) : Half := w.extractLsb' 0 16

/-- R22: `Byte(RXB + k)`. -/
def State.rx8 (s : State) (k : Nat) : Byte := Memory.read s.mem (rxBase + k)
/-- R22: `MemRead(RXB + k, 2)`. -/
def State.rx16 (s : State) (k : Nat) : Half := Memory.read16 s.mem (rxBase + k)
/-- R22: `MemRead(RXB + k, 4)`. -/
def State.rx32 (s : State) (k : Nat) : Word := Memory.read32 s.mem (rxBase + k)
/-- R22: `Byte(TXB + k)`. -/
def State.tx8 (s : State) (k : Nat) : Byte := Memory.read s.mem (txBase + k)
/-- R22: `MemRead(TXB + k, 2)`. -/
def State.tx16 (s : State) (k : Nat) : Half := Memory.read16 s.mem (txBase + k)
/-- R22: `MemRead(TXB + k, 4)`. -/
def State.tx32 (s : State) (k : Nat) : Word := Memory.read32 s.mem (txBase + k)

/-! ## Range checks -/

/-- R203 `InRange(a, n)`: the bytes lie inside one buffer; for n = 0 the end of a buffer is in range too. -/
def State.inRange (s : State) (a n : Nat) : Bool :=
  (rxBase ≤ a && a + n ≤ rxBase + s.cfg.rxBufSize) || (txBase ≤ a && a + n ≤ txBase + s.cfg.txBufSize)

/-- The first `n` bytes of RXBUF pass its end (the E_RANGE condition of the receive commands). -/
def State.rxTooLong (s : State) (n : Nat) : Bool := s.cfg.rxBufSize < n

/-- The first `n` bytes of TXBUF pass its end (the E_RANGE condition of the send commands). -/
def State.txTooLong (s : State) (n : Nat) : Bool := s.cfg.txBufSize < n

/-- R501: the seed is ARG0. -/
def State.csumSeed (s : State) : Word := s.arg0
/-- R501: the address is ARG1[15:0]; ARG1[31:16] is ignored. -/
def State.csumAddr (s : State) : Nat := (loHalf s.arg1).toNat

/-- R120: busy exactly when TX_PROTO is not 0. -/
def State.txBusy (s : State) : Bool := s.txProto != 0

/-- R9 and R802: the EtherType field of the TX buffer is 0. -/
def State.etherTypeZero (s : State) : Bool := s.tx16 12 == 0

/-! ## The register files -/

/-- Slot indices in the scan order of R605, R610 and R611: lowest first. -/
def allSlots : List Slot := [0, 1, 2, 3, 4, 5, 6, 7, 8, 9, 10, 11, 12, 13, 14, 15]

/-- `CONN[i]`. -/
def State.conn (s : State) (i : Slot) : Conn := s.conns.get i

/-- `SVC[j]`. -/
def State.svc (s : State) (j : Slot) : Svc := s.svcs.get j

/-- Write `CONN[i]`. -/
def State.setConn (s : State) (i : Slot) (c : Conn) : State := { s with conns := s.conns.set i c }

/-- Write `SVC[j]`. -/
def State.setSvc (s : State) (j : Slot) (v : Svc) : State := { s with svcs := s.svcs.set j v }

/-- R134: a slot is free exactly when REMOTE_IP is 0. -/
def Conn.free (c : Conn) : Bool := c.remoteIp == 0

/-- R130: slot `i` exists. -/
def State.connExists (s : State) (i : Slot) : Bool := i.val < s.cfg.nConn

/-- R140: slot `j` exists. -/
def State.svcExists (s : State) (j : Slot) : Bool := j.val < s.cfg.nServ

/-- R605 `Find(dport, sport)`: lowest non-free slot with these local and remote ports. -/
def State.find (s : State) (dport sport : Half) : Option Slot :=
  allSlots.find? fun i =>
    s.connExists i && !(s.conn i).free && (s.conn i).localPort == dport && (s.conn i).remotePort == sport

/-- R610: the lowest free slot. -/
def State.freeSlot (s : State) : Option Slot :=
  allSlots.find? fun i => s.connExists i && (s.conn i).free

/-- R611: the lowest valid service on a port. -/
def State.findService (s : State) (dport : Half) : Option Slot :=
  allSlots.find? fun j => s.svcExists j && (s.svc j).valid && (s.svc j).port == dport

/-! ## The received segment -/

/-- R602: the fields of the segment of length `len` at RXB + 34, whose IPv4 header is at RXB + 14. -/
def State.parseSegment (s : State) (len : Nat) : Segment where
  srcIp := s.rx32 26
  sport := s.rx16 34
  dport := s.rx16 36
  sseq := s.rx32 38
  sack := s.rx32 42
  off := (s.rx8 46).extractLsb' 4 4
  flags := (s.rx8 47).extractLsb' 0 5
  len := len

/-- R602: FIN = flags[0]. -/
def Segment.fin (g : Segment) : Bool := g.flags.getLsbD 0
/-- R602: SYN = flags[1]. -/
def Segment.syn (g : Segment) : Bool := g.flags.getLsbD 1
/-- R602: ACK = flags[4]. -/
def Segment.ack (g : Segment) : Bool := g.flags.getLsbD 4

/-- R602, R346: header length in bytes. -/
def Segment.headerLen (g : Segment) : Nat := 4 * g.off.toNat

/-- R603: `dl = L - hl` as a signed integer. -/
def Segment.dataLen (g : Segment) : Int := (g.len : Int) - (g.headerLen : Int)

/-- R603: "data length is positive". -/
def Segment.hasData (g : Segment) : Bool := 0 < g.dataLen

/-- R616, R617: by how much REMOTE_SEQ advances, `dl > 0 ? dl : 1`. -/
def Segment.advance (g : Segment) : Word := if g.hasData then BitVec.ofNat 32 g.dataLen.toNat else 1

/-! ## The headers the block builds -/

/-- R330 as R556 fills it: total length and checksum are 0 until the send. -/
def ipv4HeaderBytes (src dest : Word) (proto : Byte) : List Byte :=
  [ipv4VersionIhl, 0] ++ be16 0 ++ be16 0 ++ be16 0 ++ [ipv4Ttl, proto] ++ be16 0 ++ be32 src ++ be32 dest

/-- R340: a 20-byte TCP header with checksum and urgent pointer 0. -/
def tcpHeaderBytes (sport dport : Half) (seq ack : Word) (flags : Byte) (window : Half) : List Byte :=
  be16 sport ++ be16 dport ++ be32 seq ++ be32 ack ++ [tcpOffsetByte, flags] ++ be16 window ++ be16 0 ++ be16 0

/-- R325, right column: the ARP reply. -/
def arpReplyBytes (mac : BitVec 48) (ip : Word) (targetHw targetIp : List Byte) : List Byte :=
  be16 arpHardwareType ++ be16 arpProtocolType ++ [6, 4] ++ be16 arpReplyOpcode ++ macBytes mac ++ be32 ip ++
    targetHw ++ targetIp

end Sys2Proof.Machine
end

