-- ==== Sys2Proof/Machine/Flags.lean ====
section
/-! DEFINITION. The block's flags (R110, R145), the numbers of its coded fields (R102, R112, R131, R802, R860),
and the interrupt line (R870). -/
namespace Sys2Proof.Machine

/-- R802: STATUS.ERR. -/
def CmdError.code : CmdError → Byte
  | .illegalOpc => 1
  | .rsvBits => 2
  | .busy => 3
  | .reentrant => 4
  | .cidx => 5
  | .connFree => 6
  | .range => 7
  | .noReply => 8
  | .etype0 => 9
  | .notInCb => 10

/-- R306, R303: the error a word that decodes to no command is rejected with. -/
def CmdError.ofDecode : DecodeError → CmdError
  | .illegalOpc => .illegalOpc
  | .rsvBits => .rsvBits

/-- R112: CB_INFO.KIND. -/
def CbKind.code : CbKind → BitVec 4
  | .none => 0
  | .accept => 1
  | .process => 2
  | .closed => 3
  | .more => 4
  | .udpRx => 5

/-- R131: CONN.STATE. -/
def TcpState.code : TcpState → BitVec 3
  | .closed => 0
  | .synReceived => 1
  | .established => 2
  | .finWait1 => 3
  | .closing => 4
  | .closeWait => 5

/-- R860: the code on the debug port. -/
def LogCode.code : LogCode → Nat
  | .ethType => 1
  | .arpType => 2
  | .icmp => 3
  | .ipProto => 4
  | .txEtype0 => 5

/-- R102: SEQ. -/
def Sequencer.code : Sequencer → BitVec 2
  | .idle => 0
  | .hold _ => 1
  | .cbWait _ => 2
  | .cbHold _ _ => 3

/-- SEQ == IDLE. -/
def State.isIdle (s : State) : Bool := s.seq.code == 0
/-- SEQ == CB_WAIT. -/
def State.inCallback (s : State) : Bool := s.seq.code == 2
/-- R803 item 1: SEQ is HOLD or CB_HOLD. -/
def State.isHeld (s : State) : Bool := s.seq.code == 1 || s.seq.code == 3

/-- R110: STATUS.ERRV. -/
def State.errv (s : State) : Bool := s.err.isSome

/-- R110: STATUS.ERR, 0 when ERRV is 0. -/
def State.errCode (s : State) : Byte :=
  match s.err with
  | some e => e.code
  | none => 0

/-- R110: the STATUS register. -/
def State.statusWord (s : State) : Word :=
  0#15 ++ BitVec.ofBool s.fTxOverwrite ++ s.errCode ++ 0#2 ++ BitVec.ofBool s.errv ++ BitVec.ofBool s.done ++
    0#2 ++ s.seq.code

/-- R110, R212: a host write to STATUS: 1 to bit 4 clears DONE, 1 to bit 5 clears ERRV and ERR; nothing else changes. -/
def State.writeStatus (s : State) (v : Word) : State :=
  { s with
    done := s.done && !v.getLsbD 4
    err := if v.getLsbD 5 then none else s.err }

/-- R106, R801: a command completes. -/
def State.complete (s : State) (result : Word) : State := { s with result := result, done := true }

/-- R231: a write to TXBUF, or a hand-over, while the buffer is busy. -/
def State.noteTxUse (s : State) : State := { s with fTxOverwrite := s.fTxOverwrite || s.txBusy }

/-- R870: the level-sensitive interrupt line, a function of the state. -/
def State.irq (s : State) : Bool :=
  (s.irqEn.getLsbD 0 && s.done) || (s.irqEn.getLsbD 1 && s.inCallback) || (s.irqEn.getLsbD 2 && s.errv) ||
    (s.irqEn.getLsbD 3 && s.fTxOverwrite)

end Sys2Proof.Machine
end

