-- ==== Sys2Proof/Machine/Ops.lean ====
section
/-! DEFINITION. The shared operations: rejecting a command (R800), the acceptance checks (R803), taking and
returning from a callback (R830, R831), holding (R840), output events (R861), writing TXBUF (R231). -/
namespace Sys2Proof.Machine

/-! ## Command errors -/

/-- R800: the command word in CMD_LAST is rejected: ERR, ERRV and ERR_CMD are written, nothing else changes. -/
def State.reject (s : State) (e : CmdError) : State := { s with err := some e, errCmd := s.cmdLast }

/-- R803: of a list of checks, the first that fails is reported. -/
def firstError : List (Bool × CmdError) → Option CmdError
  | [] => none
  | (failed, e) :: rest => if failed then some e else firstError rest

/-- R803 items 1 and 5 for a command outside the nested set of R834. -/
def State.outerChecks (s : State) : List (Bool × CmdError) := [(s.isHeld, .busy), (s.inCallback, .reentrant)]

/-- R803 item 1 for a command of the nested set of R834. -/
def State.nestedChecks (s : State) : List (Bool × CmdError) := [(s.isHeld, .busy)]

/-- R803 items 6 and 7 for a command on an existing, non-free connection. -/
def State.connChecks (s : State) (i : Slot) : List (Bool × CmdError) :=
  [(!s.connExists i, .cidx), ((s.conn i).free, .connFree)]

/-- R800, R801: reject with the first failing check, or run the command up to its first suspension or its
completion, in this same step. -/
def State.command (s : State) (checks : List (Bool × CmdError)) (run : State → State) :
    Host.Outcome State Fault Refusal :=
  .next (match firstError checks with
    | some e => s.reject e
    | none => run s)

/-! ## Callbacks: the block's trap mechanism -/

/-- R830 `call CB(kind, conn, svc, addr, len)`: CB_INFO, CB_ADDR and CB_LEN are written, the continuation is
saved in K_OUTER and SEQ becomes CB_WAIT; nothing else changes. -/
def State.raiseCallback (s : State) (kind : CbKind) (conn svc : Slot) (addr len : Nat) (k : CallbackK) : State :=
  { s with
    cbKind := kind
    cbConn := conn
    cbSvc := svc
    cbAddr := BitVec.ofNat 16 addr
    cbLen := BitVec.ofNat 16 len
    seq := .cbWait k }

/-- R710, R831: what CB_RET writes before the outer command goes on. -/
def State.callbackReturn (s : State) (value : Half) : State :=
  { s with cbRetval := value, cbKind := .none, done := true, seq := .idle }

/-! ## Holds -/

/-- R840 `hold until TX_PROTO == 0` inside a receive handler, which is never nested (R834): go on in this step,
or suspend with SEQ = HOLD. -/
def State.holdThen (s : State) (k : HoldK) (body : State → State) : State :=
  if s.txBusy then { s with seq := .hold k } else body s

/-- R840: where a hold of TCP_WAIT or TCP_CLOSE is kept: K_NESTED and CB_HOLD during a callback, else K_OUTER and HOLD. -/
def Sequencer.suspend (q : Sequencer) (k : CommandHold) : Sequencer :=
  match q with
  | .cbWait outer => .cbHold outer k
  | .idle => .hold (.command k)
  | .hold _ => .hold (.command k)
  | .cbHold outer _ => .cbHold outer k

/-- R840 `hold until TX_PROTO == 0` of a command that may be nested. -/
def State.commandHold (s : State) (k : CommandHold) (body : State → State) : State :=
  if s.txBusy then { s with seq := s.seq.suspend k } else body s

/-! ## Output events -/

/-- R861: append an event to the trace. -/
def State.emit (s : State) (e : Event) : State := { s with trace := s.trace ++ [e] }

/-- R860 `log(code, arg)`. -/
def State.log (s : State) (code : LogCode) (arg : Word) : State := s.emit (.log code arg)

/-! ## Writing the TX buffer -/

/-- `Byte(TXB + k) <- v` with R231's fault bit.  Outside the buffer no byte exists (R200) and nothing is written;
the block's own writes are always inside it when the parameters are well formed (log 5). -/
def State.txPut (s : State) (k : Nat) (v : Byte) : State :=
  if k < s.cfg.txBufSize then { s.noteTxUse with mem := Memory.write s.mem (txBase + k) v } else s

/-- Write bytes at TXB + k, TXB + k + 1, ... (MemWrite and Copy of R22). -/
def State.txPuts (s : State) (k : Nat) : List Byte → State
  | [] => s
  | v :: vs => (s.txPut k v).txPuts (k + 1) vs

/-- `Byte(TXB + k) <- Byte(TXB + k) | v`, as R611, R616, R660 and R680 set a TCP flag. -/
def State.txOr (s : State) (k : Nat) (v : Byte) : State := s.txPut k (s.tx8 k ||| v)

end Sys2Proof.Machine
end

