-- ==== Sys2Proof/Machine/Ethernet.lean ====
section
/-! DEFINITION. The Ethernet frame build, hand-over and re-arm (41_netif.md R403, R404, R410), and the
commands of the network interface that need no packet handler: INIT, ETH_ACQ, ETH_TX, SET_MORE. -/
namespace Sys2Proof.Machine

/-- R403 `EthAcquire(et)`: destination from RXBUF bytes 6 to 11, source from MAC, EtherType; nothing for 0. -/
def State.ethAcquire (s : State) (et : Half) : State :=
  if et = 0 then s
  else s.txPuts 0 (Memory.bytes s.mem (rxBase + 6) 6 ++ macBytes s.mac ++ be16 et)

/-- R404: the hand-over of a frame whose EtherType is not 0. -/
def State.handOver (s : State) (n : Nat) : State :=
  { s.noteTxUse with
    txProto := s.tx16 12
    txLen := BitVec.ofNat 16 (ethHeader + n)
    trace := s.trace ++ [.frameSent (Memory.bytes s.mem txBase (ethHeader + n)) (ethHeader + n)] }

/-- R404, the internal `EthTransmit(n)`: a zero EtherType is logged and nothing is handed over. -/
def State.ethTransmit (s : State) (n : Nat) : State :=
  if s.etherTypeZero then s.log .txEtype0 0 else s.handOver n

/-- R410 `Rearm()`. -/
def State.rearm (s : State) : State := State.emit { s with rxLen := 0, rxArmed := true } .rxRearm

/-- R400 INIT's effect before the re-arm event and the completion. -/
def State.initialise (s : State) : State :=
  { s with
    fTxOverwrite := s.txBusy
    conns := Vector.replicate 16 Conn.zero
    svcs := Vector.replicate 16 Svc.zero
    mem := []
    txProto := 0
    txLen := 0
    moreCb := false
    mac := s.cfg.mac
    cbKind := .none
    cbConn := 0
    cbSvc := 0
    cbAddr := 0
    cbLen := 0
    cbRetval := 0
    errCmd := 0
    err := none }

/-- R400 INIT. -/
def execInit (s : State) : Host.Outcome State Fault Refusal :=
  s.command s.outerChecks fun s => s.initialise.rearm.complete 0

/-- R403 ETH_ACQ. -/
def execEthAcq (et : Half) (s : State) : Host.Outcome State Fault Refusal :=
  s.command s.nestedChecks fun s => (s.ethAcquire et).complete (BitVec.ofNat 32 (txBase + ethHeader))

/-- R404 ETH_TX. -/
def execEthTx (len : Half) (s : State) : Host.Outcome State Fault Refusal :=
  s.command (s.nestedChecks ++ [(s.txTooLong (ethHeader + len.toNat), .range), (s.etherTypeZero, .etype0)])
    fun s => (s.ethTransmit len.toNat).complete 0

/-- R405 SET_MORE. -/
def execSetMore (register : Bool) (s : State) : Host.Outcome State Fault Refusal :=
  s.command s.nestedChecks fun s => State.complete { s with moreCb := register } 0

end Sys2Proof.Machine
end

