-- ==== Sys2Proof/Machine/Arp.lean ====
section
/-! DEFINITION. The ARP request matcher and reply builder (42_arp.md). -/
namespace Sys2Proof.Machine

/-- R452 `ArpReply(a)`, with the request at RXB + 14; it does not wait for TX_PROTO = 0. -/
def State.arpReply (s : State) : State :=
  ((s.ethAcquire etherTypeArp).txPuts ethHeader
    (arpReplyBytes s.mac s.cfg.localIp (Memory.bytes s.mem (rxBase + 22) 6) (Memory.bytes s.mem (rxBase + 28) 4))).ethTransmit
      arpPacket

/-- R451 `ArpHandle(n)`: the answer (1 if a reply was sent, else 0) and the state after. -/
def State.arpHandle (s : State) (n : Nat) : Word × State :=
  if n < arpPacket then (0, s)
  else if s.rx16 14 ≠ arpHardwareType ∨ s.rx16 16 ≠ arpProtocolType then
    (0, s.log .arpType (s.rx16 14 ++ s.rx16 16))
  else if s.rx16 20 ≠ arpRequest then (0, s)
  else if s.rx32 38 ≠ s.cfg.localIp then (0, s)
  else (1, s.arpReply)

/-- R450 ARP_RX. -/
def execArpRx (len : Half) (s : State) : Host.Outcome State Fault Refusal :=
  s.command (s.outerChecks ++ [(s.rxTooLong (ethHeader + len.toNat), .range)]) fun s =>
    (s.arpHandle len.toNat).2.complete (s.arpHandle len.toNat).1

end Sys2Proof.Machine
end

