-- ==== Sys2Proof/Machine/Checksum.lean ====
section
/-! DEFINITION. The RFC 1071 checksum unit (43_checksum.md): the primitive and the command CSUM. -/
namespace Sys2Proof.Machine

/-- R500, both loops over the bytes: the accumulator adds big-endian words modulo 2^32, an odd trailing byte
padded with a zero low byte. -/
def checksumAcc : Word → List Byte → Word
  | acc, [] => acc
  | acc, [b] => acc + BitVec.setWidth 32 (b ++ 0#8)
  | acc, b0 :: b1 :: rest => checksumAcc (acc + BitVec.setWidth 32 (b0 ++ b1)) rest

/-- R500, one round of the fold: `acc[15:0] + acc[31:16]`. -/
def foldOnce (acc : Word) : Word := BitVec.setWidth 32 (loHalf acc) + BitVec.setWidth 32 (hiHalf acc)

/-- R500, the loop `while acc[31:16] != 0`, for at most `fuel` rounds. -/
def foldLoop : Nat → Word → Word
  | 0, acc => acc
  | fuel + 1, acc => if hiHalf acc = 0 then acc else foldLoop fuel (foldOnce acc)

/-- R500: the folded value.  Two rounds always suffice (R502; the lemma is `hiHalf_foldLoop`), so the fuel 2 cuts
no run of the loop short. -/
def foldCarries (acc : Word) : Half := loHalf (foldLoop 2 acc)

/-- R500 `Checksum(seed, a, len)`. -/
def State.checksum (s : State) (seed : Word) (a len : Nat) : Half :=
  foldCarries (checksumAcc seed (Memory.bytes s.mem a len))

/-- R501 CSUM. -/
def execCsum (len : Half) (s : State) : Host.Outcome State Fault Refusal :=
  s.command (s.nestedChecks ++ [(!s.inRange s.csumAddr len.toNat, .range)]) fun s =>
    s.complete (BitVec.setWidth 32 (s.checksum s.csumSeed s.csumAddr len.toNat))

end Sys2Proof.Machine
end

