-- ==== Sys2Proof/Machine/Ipv4Build.lean ====
section
/-! DEFINITION. The IPv4 header builder (44_ipv4.md section 2): IP_ACQ and IP_TX. -/
namespace Sys2Proof.Machine

/-- R556 `IpAcquire(dest, proto)`. -/
def State.ipAcquire (s : State) (dest : Word) (proto : Byte) : State :=
  (s.ethAcquire etherTypeIpv4).txPuts ethHeader (ipv4HeaderBytes s.cfg.localIp dest proto)

/-- R561, the header part of `IpSend(n)`: total length, then the checksum over the header with its field zeroed. -/
def State.ipFinish (s : State) (n : Nat) : State :=
  let z := (s.txPuts 16 (be16 (BitVec.ofNat 16 (ipHeader + n)))).txPuts 24 (be16 0)
  z.txPuts 24 (be16 (~~~ z.checksum 0 (txBase + ethHeader) ipHeader))

/-- R561 `IpSend(n)`. -/
def State.ipSend (s : State) (n : Nat) : State := (s.ipFinish n).ethTransmit (ipHeader + n)

/-- R555 IP_ACQ. -/
def execIpAcq (proto : Byte) (s : State) : Host.Outcome State Fault Refusal :=
  s.command s.nestedChecks fun s =>
    (s.ipAcquire s.arg0 proto).complete (BitVec.ofNat 32 (txBase + ethHeader + ipHeader))

/-- R560 IP_TX. -/
def execIpTx (len : Half) (s : State) : Host.Outcome State Fault Refusal :=
  s.command (s.nestedChecks ++
      [(s.txTooLong (ethHeader + ipHeader + len.toNat), .range), (s.etherTypeZero, .etype0)]) fun s =>
    (s.ipSend len.toNat).complete 0

end Sys2Proof.Machine
end

