-- ==== Sys2Proof/Machine/TcpBuild.lean ====
section
/-! DEFINITION. Building and sending TCP segments (45_tcp.md section 4): TCP_FIND, TCP_ACQ, TCP_TX, TCP_WAIT,
TCP_CLOSE. -/
namespace Sys2Proof.Machine

/-- R640: the pseudo-header word sum, addresses from the IPv4 header in TXBUF. -/
def State.pseudoHeaderSeed (s : State) (tl : Nat) : Word :=
  BitVec.setWidth 32 (hiHalf (s.tx32 26)) + BitVec.setWidth 32 (loHalf (s.tx32 26)) +
    BitVec.setWidth 32 (hiHalf (s.tx32 30)) + BitVec.setWidth 32 (loHalf (s.tx32 30)) +
    BitVec.setWidth 32 protoTcp + BitVec.ofNat 32 tl

/-- R640 `TcpChecksum(tl)`. -/
def State.tcpChecksum (s : State) (tl : Nat) : State :=
  let z := s.txPuts 50 (be16 0)
  z.txPuts 50 (be16 (~~~ z.checksum (s.pseudoHeaderSeed tl) (txBase + 34) tl))

/-- R650: build the default ACK header of connection `i` and mark its reply pending. -/
def State.buildReply (s : State) (i : Slot) : State :=
  let c := s.conn i
  ((s.ipAcquire c.remoteIp protoTcp).txPuts 34
    (tcpHeaderBytes c.localPort c.remotePort c.localSeq c.remoteSeq tcpAck s.cfg.tcpWindow)).setConn i
      { c with replyPending := true }

/-- R650 `TcpAcquire(i)`: a pending reply is reused, not rebuilt. -/
def State.tcpAcquire (s : State) (i : Slot) : State :=
  if (s.conn i).replyPending then s else s.buildReply i

/-- R660: the frame part of `TcpSend(i, n)`: PSH when there is data, TCP checksum, hand-over through IPv4. -/
def State.tcpSendFrame (s : State) (n : Nat) : State :=
  ((if 0 < n then s.txOr 47 tcpPsh else s).tcpChecksum (tcpHeader + n)).ipSend (tcpHeader + n)

/-- R660 `TcpSend(i, n)`. -/
def State.tcpSend (s : State) (i : Slot) (n : Nat) : State :=
  (s.tcpSendFrame n).setConn i
    { s.conn i with localSeq := (s.conn i).localSeq + BitVec.ofNat 32 n, replyPending := false }

/-- Set CONN[i].STATE. -/
def State.setTcpState (s : State) (i : Slot) (st : TcpState) : State :=
  s.setConn i { s.conn i with state := st }

/-- R680 TCP_CLOSE after its hold. -/
def State.tcpCloseBody (s : State) (i : Slot) : State :=
  ((((s.tcpAcquire i).txOr 47 tcpFin).tcpSend i 0).setTcpState i .finWait1).complete 0

/-- What the hold of TCP_WAIT or TCP_CLOSE goes on with (R670, R680). -/
def State.runCommandHold (s : State) : CommandHold → State
  | .tcpWait _ => s.complete 0
  | .tcpClose i => s.tcpCloseBody i

/-- R630 TCP_FIND. -/
def execTcpFind (s : State) : Host.Outcome State Fault Refusal :=
  s.command s.nestedChecks fun s =>
    s.complete (match s.find (s.rx16 36) (s.rx16 34) with
      | some i => BitVec.ofNat 32 i.val
      | none => 0xFFFFFFFF)

/-- R650 TCP_ACQ. -/
def execTcpAcq (i : Slot) (s : State) : Host.Outcome State Fault Refusal :=
  s.command (s.nestedChecks ++ s.connChecks i) fun s =>
    (s.tcpAcquire i).complete (BitVec.ofNat 32 (txBase + 54))

/-- R660 TCP_TX. -/
def execTcpTx (i : Slot) (len : Half) (s : State) : Host.Outcome State Fault Refusal :=
  s.command (s.nestedChecks ++ s.connChecks i ++
      [(s.txTooLong (54 + len.toNat), .range), (!(s.conn i).replyPending, .noReply), (s.etherTypeZero, .etype0)])
    fun s => (s.tcpSend i len.toNat).complete 0

/-- R670 TCP_WAIT: a free slot is allowed. -/
def execTcpWait (i : Slot) (s : State) : Host.Outcome State Fault Refusal :=
  s.command (s.nestedChecks ++ [(!s.connExists i, .cidx)]) fun s =>
    s.commandHold (.tcpWait i) fun s => s.runCommandHold (.tcpWait i)

/-- R680 TCP_CLOSE. -/
def execTcpClose (i : Slot) (s : State) : Host.Outcome State Fault Refusal :=
  s.command (s.nestedChecks ++ s.connChecks i) fun s =>
    s.commandHold (.tcpClose i) fun s => s.runCommandHold (.tcpClose i)

end Sys2Proof.Machine
end

