-- ==== Sys2Proof/Machine/TcpReceive.lean ====
section
/-! DEFINITION. TCP receive and the connection state machine (45_tcp.md sections 1 to 3), with the
continuations of its holds and callbacks, and TCP_RX. -/
namespace Sys2Proof.Machine

/-- The end of a receive handler: POLL re-arms and answers 3 (R401), a direct command answers 0 (R406, R550, R600). -/
def State.finish (s : State) : Tail → State
  | .poll => s.rearm.complete 3
  | .direct => s.complete 0

/-! ## Accept -/

/-- R613 `SendRst()` after its hold. -/
def State.rstBody (s : State) (t : Tail) (g : Segment) : State :=
  ((((s.ipAcquire g.srcIp protoTcp).txPuts 34
    (tcpHeaderBytes g.dport g.sport 0 (g.sseq + 1) (tcpRst ||| tcpAck) 0)).tcpChecksum tcpHeader).ipSend tcpHeader).finish t

/-- R613 `SendRst()`. -/
def State.sendRst (s : State) (t : Tail) (g : Segment) : State :=
  s.holdThen (.rst t g) fun s => s.rstBody t g

/-- R610: what `Accept()` writes into the slot it claims. -/
def Conn.bind (c : Conn) (iss : Word) (g : Segment) : Conn :=
  { c with
    remoteIp := g.srcIp
    localPort := g.dport
    remotePort := g.sport
    localSeq := iss
    remoteSeq := g.sseq + 1
    state := .synReceived
    replyPending := false }

/-- R134, R611, R620: what releasing a slot writes; the other fields stay. -/
def Conn.release (c : Conn) : Conn := { c with remoteIp := 0, state := .closed, replyPending := false }

/-- R610, R611 `Accept()` up to the ACCEPT callback or the RST. -/
def State.accept (s : State) (t : Tail) (g : Segment) : State :=
  match s.freeSlot with
  | none => s.sendRst t g
  | some f =>
    match s.findService g.dport with
    | none => (s.setConn f ((s.conn f).bind s.cfg.iss g).release).sendRst t g
    | some j =>
      (s.setConn f { (s.conn f).bind s.cfg.iss g with svc := j, priv := (s.svc j).priv }).raiseCallback
        .accept f j 0 0 (.accept t g f)

/-- R611 after the hold: the SYN+ACK. -/
def State.synAckBody (s : State) (t : Tail) (f : Slot) : State :=
  (((s.tcpAcquire f).txOr 47 tcpSyn).tcpSend f 0).finish t

/-- R611 after the ACCEPT callback; its return value is not examined. -/
def State.afterAccept (s : State) (t : Tail) (g : Segment) (f : Slot) : State :=
  s.holdThen (.synAck t g f) fun s => s.synAckBody t f

/-! ## The states of a matched connection -/

/-- R616, R617: an inbound ACK overwrites LOCAL_SEQ. -/
def Conn.takeAck (c : Conn) (g : Segment) : Conn := if g.ack then { c with localSeq := g.sack } else c

/-- R616, R617: REMOTE_SEQ advances by the data length, or by 1 without data. -/
def Conn.advanceRemote (c : Conn) (g : Segment) : Conn := { c with remoteSeq := c.remoteSeq + g.advance }

/-- R615. -/
def State.rxSynReceived (s : State) (t : Tail) (g : Segment) (i : Slot) : State :=
  (if g.ack then s.setConn i { s.conn i with localSeq := g.sack, state := .established } else s).finish t

/-- R616 after its last hold. -/
def State.estDoneBody (s : State) (t : Tail) : State := s.finish t

/-- R616 after its first hold: the manager's ACK, or ACK+FIN with CLOSE_WAIT, then the second hold. -/
def State.estReplyBody (s : State) (t : Tail) (g : Segment) (i : Slot) : State :=
  let a := s.tcpAcquire i
  let b := if g.fin then (a.txOr 47 tcpFin).setTcpState i .closeWait else a
  (b.tcpSend i 0).holdThen (.estDone t g i) fun s => s.estDoneBody t

/-- R616 from the manager's ACK logic on. -/
def State.afterProcess (s : State) (t : Tail) (g : Segment) (i : Slot) : State :=
  s.holdThen (.estReply t g i) fun s => s.estReplyBody t g i

/-- R616: ESTABLISHED. -/
def State.rxEstablished (s : State) (t : Tail) (g : Segment) (i : Slot) : State :=
  let a := s.setConn i ((s.conn i).takeAck g)
  if g.hasData then
    (a.setConn i ((a.conn i).advanceRemote g)).raiseCallback .process i (s.conn i).svc
      (rxBase + 34 + g.headerLen) g.dataLen.toNat (.process t g i)
  else if g.fin then (a.setConn i ((a.conn i).advanceRemote g)).afterProcess t g i
  else a.finish t

/-- R617 after its last hold. -/
def State.finDoneBody (s : State) (t : Tail) (i : Slot) : State := (s.setTcpState i .closing).finish t

/-- R617 after its first hold: the pure ACK of the peer's FIN, then the second hold. -/
def State.finReplyBody (s : State) (t : Tail) (g : Segment) (i : Slot) : State :=
  ((s.tcpAcquire i).tcpSend i 0).holdThen (.finDone t g i) fun s => s.finDoneBody t i

/-- R617: FIN_WAIT_1. -/
def State.rxFinWait1 (s : State) (t : Tail) (g : Segment) (i : Slot) : State :=
  let a := s.setConn i ((s.conn i).takeAck g)
  if g.fin then
    (a.setConn i ((a.conn i).advanceRemote g)).holdThen (.finReply t g i) fun s => s.finReplyBody t g i
  else if g.ack then (a.setTcpState i .closing).finish t
  else a.finish t

/-- R618, R620: CLOSE_WAIT and CLOSING; the CLOSED callback comes before the release. -/
def State.rxPassiveClose (s : State) (t : Tail) (g : Segment) (i : Slot) : State :=
  if g.ack && !g.hasData then s.raiseCallback .closed i (s.conn i).svc 0 0 (.closed t g i)
  else s.finish t

/-- R620 `Release(i)` after its callback. -/
def State.afterClosed (s : State) (t : Tail) (i : Slot) : State :=
  (s.setConn i (s.conn i).release).finish t

/-- R601: dispatch on the state of the matched connection; CLOSED has no effect (R619). -/
def State.rxMatched (s : State) (t : Tail) (g : Segment) (i : Slot) : State :=
  match (s.conn i).state with
  | .closed => s.finish t
  | .synReceived => s.rxSynReceived t g i
  | .established => s.rxEstablished t g i
  | .finWait1 => s.rxFinWait1 t g i
  | .closing => s.rxPassiveClose t g i
  | .closeWait => s.rxPassiveClose t g i

/-- R601, R606: the parsed segment. -/
def State.rxSegment (s : State) (t : Tail) (g : Segment) : State :=
  match s.find g.dport g.sport with
  | some i => s.rxMatched t g i
  | none => if g.syn then s.accept t g else s.finish t

/-- R601 `TcpReceive(L)`, followed by what the receive command still does. -/
def State.tcpReceive (s : State) (t : Tail) (len : Nat) : State :=
  if len < tcpHeader then s.finish t else s.rxSegment t (s.parseSegment len)

/-- R600 TCP_RX. -/
def execTcpRx (len : Half) (s : State) : Host.Outcome State Fault Refusal :=
  s.command (s.outerChecks ++ [(s.rxTooLong (ethHeader + ipHeader + len.toNat), .range)]) fun s =>
    s.tcpReceive .direct len.toNat

end Sys2Proof.Machine
end

