-- ==== Sys2Proof/Machine/Netif.lean ====
section
/-! DEFINITION. IPv4 receive (44_ipv4.md section 1), the Ethernet dispatcher and the commands that enter it:
IP_RX, ETH_RX, POLL (41_netif.md). -/
namespace Sys2Proof.Machine

/-- R553 `UdpDeliver(m)`. -/
def State.udpDeliver (s : State) (t : Tail) (m : Nat) : State :=
  s.raiseCallback .udpRx 0 0 (rxBase + 34) m (.udp t)

/-- R551 `IpReceive(n)`, followed by what the receive command still does. -/
def State.ipReceive (s : State) (t : Tail) (n : Nat) : State :=
  if n < ipHeader then s.finish t
  else if s.rx8 23 = protoIcmp then (s.log .icmp 0).finish t
  else if s.rx8 23 = protoTcp then s.tcpReceive t (n - ipHeader)
  else if s.rx8 23 = protoUdp then s.udpDeliver t (n - ipHeader)
  else (s.log .ipProto (BitVec.setWidth 32 (s.rx8 23))).finish t

/-- R407 `EthDispatch(n)`, followed by what the receive command still does. -/
def State.ethDispatch (s : State) (t : Tail) (n : Nat) : State :=
  if n < ethHeader then s.finish t
  else if s.rx16 12 = etherTypeIpv4 then s.ipReceive t (n - ethHeader)
  else if s.rx16 12 = etherTypeArp then (s.arpHandle (n - ethHeader)).2.finish t
  else (s.log .ethType (BitVec.setWidth 32 (s.rx16 12))).finish t

/-- R401 POLL after its acceptance. -/
def State.poll (s : State) : State :=
  if s.moreCb then
    if s.txBusy then s.complete 1 else s.raiseCallback .more 0 0 0 0 .more
  else if s.rxLen = 0 then s.complete 0
  else s.ethDispatch .poll s.rxLen.toNat

/-- R550 IP_RX. -/
def execIpRx (len : Half) (s : State) : Host.Outcome State Fault Refusal :=
  s.command (s.outerChecks ++ [(s.rxTooLong (ethHeader + len.toNat), .range)]) fun s =>
    s.ipReceive .direct len.toNat

/-- R406 ETH_RX. -/
def execEthRx (len : Half) (s : State) : Host.Outcome State Fault Refusal :=
  s.command (s.outerChecks ++ [(s.rxTooLong len.toNat, .range)]) fun s => s.ethDispatch .direct len.toNat

/-- R401 POLL. -/
def execPoll (s : State) : Host.Outcome State Fault Refusal := s.command s.outerChecks State.poll

end Sys2Proof.Machine
end

