-- ==== Sys2Proof/Machine/HostControl.lean ====
section
/-! DEFINITION. Resuming suspended commands (R831, R840), and the host's commands SVC_REG and CB_RET
(46_host_control.md). -/
namespace Sys2Proof.Machine

/-- R831: the outer command goes on after its callback; no rule examines the returned value. -/
def State.resumeCallback (s : State) : CallbackK → State
  | .more => s.complete 2
  | .udp t => s.finish t
  | .accept t g f => s.afterAccept t g f
  | .process t g i => s.afterProcess t g i
  | .closed t _ i => s.afterClosed t i

/-- R840: the outer command goes on after its hold. -/
def State.resumeHold (s : State) : HoldK → State
  | .command k => s.runCommandHold k
  | .synAck t _ f => s.synAckBody t f
  | .rst t g => s.rstBody t g
  | .estReply t g i => s.estReplyBody t g i
  | .estDone t _ _ => s.estDoneBody t
  | .finReply t g i => s.finReplyBody t g i
  | .finDone t _ i => s.finDoneBody t i

/-- R840: the block's own step, enabled when a command is held and TX_PROTO is 0; otherwise nothing happens. -/
def State.resume (s : State) : State :=
  if s.txBusy then s
  else match s.seq with
    | .idle => s
    | .cbWait _ => s
    | .hold k => State.resumeHold { s with seq := .idle } k
    | .cbHold outer k => State.runCommandHold { s with seq := .cbWait outer } k

/-- R700 SVC_REG. -/
def execSvcReg (j : Slot) (port : Half) (s : State) : Host.Outcome State Fault Refusal :=
  s.command (s.outerChecks ++ [(!s.svcExists j, .cidx)]) fun s =>
    (s.setSvc j { port := port, valid := true, priv := s.arg0 }).complete 0

/-- R710 CB_RET: E_BUSY in a hold, E_NOT_IN_CB when idle, else the callback returns and the outer command goes
on in this same step. -/
def execCbRet (value : Half) (s : State) : Host.Outcome State Fault Refusal :=
  s.command (s.nestedChecks ++ [(s.isIdle, .notInCb)]) fun s =>
    match s.seq with
    | .cbWait k => (s.callbackReturn value).resumeCallback k
    | .idle => s
    | .hold _ => s
    | .cbHold _ _ => s

end Sys2Proof.Machine
end

