-- ==== Sys2Proof/Machine/Dispatch.lean ====
section
/-! DEFINITION. One arm per command of R305. -/
namespace Sys2Proof.Machine

def exec (i : Instr) (s : State) : Host.Outcome State Fault Refusal :=
  match i with
  | .init => Sys2Proof.Machine.execInit s
  | .poll => Sys2Proof.Machine.execPoll s
  | .ethAcq etherType => Sys2Proof.Machine.execEthAcq etherType s
  | .ethTx len => Sys2Proof.Machine.execEthTx len s
  | .setMore register => Sys2Proof.Machine.execSetMore register s
  | .ethRx len => Sys2Proof.Machine.execEthRx len s
  | .arpRx len => Sys2Proof.Machine.execArpRx len s
  | .csum len => Sys2Proof.Machine.execCsum len s
  | .ipRx len => Sys2Proof.Machine.execIpRx len s
  | .ipAcq proto => Sys2Proof.Machine.execIpAcq proto s
  | .ipTx len => Sys2Proof.Machine.execIpTx len s
  | .tcpRx len => Sys2Proof.Machine.execTcpRx len s
  | .tcpFind => Sys2Proof.Machine.execTcpFind s
  | .tcpAcq cidx => Sys2Proof.Machine.execTcpAcq cidx s
  | .tcpTx cidx len => Sys2Proof.Machine.execTcpTx cidx len s
  | .tcpWait cidx => Sys2Proof.Machine.execTcpWait cidx s
  | .tcpClose cidx => Sys2Proof.Machine.execTcpClose cidx s
  | .svcReg cidx port => Sys2Proof.Machine.execSvcReg cidx port s
  | .cbRet value => Sys2Proof.Machine.execCbRet value s

end Sys2Proof.Machine
end

