-- ==== Sys2Proof/Machine/Bus.lean ====
section
/-! DEFINITION. The host's register map and windows (10_state.md table, R200-R212), issuing a command (R104,
R800, R801), the transport's two events (R851, R852), and one turn of an agent (R221). -/
namespace Sys2Proof.Machine

/-! ## Reading registers -/

/-- R112: the CB_INFO register. -/
def State.cbInfoWord (s : State) : Word :=
  0#16 ++ (BitVec.ofFin s.cbSvc : BitVec 4) ++ (BitVec.ofFin s.cbConn : BitVec 4) ++ 0#4 ++ s.cbKind.code

/-- R130: the word at an offset of a connection block. -/
def Conn.readWord (c : Conn) : Nat → Word
  | 0x00 => c.remoteIp
  | 0x04 => c.localPort ++ c.remotePort
  | 0x08 => c.localSeq
  | 0x0C => c.remoteSeq
  | 0x10 => 0#20 ++ (BitVec.ofFin c.svc : BitVec 4) ++ 0#3 ++ BitVec.ofBool c.replyPending ++ 0#1 ++ c.state.code
  | 0x14 => c.priv
  | _ => 0

/-- R140: the word at an offset of a service block. -/
def Svc.readWord (v : Svc) : Nat → Word
  | 0x0 => 0#15 ++ BitVec.ofBool v.valid ++ v.port
  | 0x4 => v.priv
  | _ => 0

/-- The slot number a block address names. -/
def slotOf (n : Nat) : Slot := Fin.ofNat 16 n

/-- 10_state.md table: the register at a 4-byte-aligned address below 0x4000; unlisted addresses read 0. -/
def State.readRegister (s : State) (a : Nat) : Word :=
  match a with
  | 0x000 => s.cmdLast
  | 0x004 => s.arg0
  | 0x008 => s.arg1
  | 0x00C => s.result
  | 0x010 => s.statusWord
  | 0x014 => BitVec.setWidth 32 s.irqEn
  | 0x018 => s.cbInfoWord
  | 0x01C => BitVec.setWidth 32 s.cbAddr
  | 0x020 => BitVec.setWidth 32 s.cbLen
  | 0x024 => BitVec.setWidth 32 s.cbRetval
  | 0x028 => s.errCmd
  | 0x030 => BitVec.setWidth 32 (s.mac.extractLsb' 32 16)
  | 0x034 => s.mac.extractLsb' 0 32
  | 0x038 => s.cfg.localIp
  | 0x03C => 0#15 ++ BitVec.ofBool s.rxArmed ++ s.rxLen
  | 0x040 => 0#15 ++ BitVec.ofBool s.moreCb ++ s.txProto
  | 0x044 => BitVec.setWidth 32 s.txLen
  | 0x048 => 0#19 ++ BitVec.ofNat 5 s.cfg.nServ ++ 0#3 ++ BitVec.ofNat 5 s.cfg.nConn
  | 0x04C => BitVec.ofNat 16 s.cfg.txBufSize ++ BitVec.ofNat 16 s.cfg.rxBufSize
  | _ =>
    if 0x100 ≤ a ∧ a < 0x100 + 0x20 * s.cfg.nConn then
      (s.conn (slotOf ((a - 0x100) / 0x20))).readWord ((a - 0x100) % 0x20)
    else if 0x400 ≤ a ∧ a < 0x400 + 0x10 * s.cfg.nServ then
      (s.svc (slotOf ((a - 0x400) / 0x10))).readWord ((a - 0x400) % 0x10)
    else 0

/-! ## Host accesses -/

/-- R240: where the host processor sees address `a` of the block. -/
def State.processorAddress (s : State) (a : BitVec 16) : Nat := s.cfg.hostBase + a.toNat

/-- Bytes of an access. -/
def Width.bytes : Width → Nat
  | .w8 => 1
  | .w16 => 2
  | .w32 => 4

/-- R201: an address of the register space. -/
def inRegisterSpace (a : Nat) : Bool := a < 0x4000

/-- R210: a misaligned access anywhere, or a narrow access to the register space. -/
def busError (w : Width) (a : Nat) : Bool := a % w.bytes != 0 || (inRegisterSpace a && w != .w32)

/-- R200: the address names a buffer byte. -/
def State.isBufferByte (s : State) (a : Nat) : Bool :=
  (rxBase ≤ a && a < rxBase + s.cfg.rxBufSize) || (txBase ≤ a && a < txBase + s.cfg.txBufSize)

/-- R201: what the host reads at a window address: the buffer byte, or 0 beyond the buffers. -/
def State.windowByte (s : State) (a : Nat) : Byte := if s.isBufferByte a then Memory.read s.mem a else 0

/-- R211: little-endian lanes, `n` bytes from address `a`. -/
def State.readLanes (s : State) (a : Nat) : Nat → Word
  | 0 => 0
  | n + 1 => BitVec.setWidth 32 (s.windowByte a) ||| (s.readLanes (a + 1) n <<< 8)

/-- R210-R212: what a host read returns. -/
def State.readBus (s : State) (w : Width) (a : Nat) : BusResponse :=
  if busError w a then { error := true, data := 0 }
  else { error := false, data := if inRegisterSpace a then s.readRegister a else s.readLanes a w.bytes }

/-- R212: a host read changes no state of the block; the model keeps the answer. -/
def State.hostRead (s : State) (w : Width) (addr : BitVec 16) : State :=
  { s with bus := s.readBus w addr.toNat }

/-- R104, R800-R803: a word written to CMD.  A word that is no command is rejected, with E_BUSY first while a
command is held; any other word runs as a command. -/
def State.issue (s : State) (w : Word) : Host.Outcome State Fault Refusal :=
  match decode w with
  | .ok i => exec i { s with cmdLast := w }
  | .error e => .next (State.reject { s with cmdLast := w } (if s.isHeld then .busy else .ofDecode e))

/-- R105, R110, R111, R130: a host write to a register other than CMD. -/
def State.writeRegister (s : State) (a : Nat) (v : Word) : State :=
  match a with
  | 0x004 => { s with arg0 := v }
  | 0x008 => { s with arg1 := v }
  | 0x010 => s.writeStatus v
  | 0x014 => { s with irqEn := BitVec.setWidth 4 v }
  | _ =>
    if 0x100 ≤ a ∧ a < 0x100 + 0x20 * s.cfg.nConn ∧ (a - 0x100) % 0x20 = 0x14 then
      s.setConn (slotOf ((a - 0x100) / 0x20)) { s.conn (slotOf ((a - 0x100) / 0x20)) with priv := v }
    else s

/-- R211: the lanes of a host write, lowest address first. -/
def lanes (v : Word) : Nat → List Byte
  | 0 => []
  | n + 1 => v.extractLsb' 0 8 :: lanes (v >>> 8) n

/-- R201, R202, R212, R231: a host write at or above 0x4000: the TX window is written, everything else ignored. -/
def State.writeWindow (s : State) (w : Width) (a : Nat) (v : Word) : State :=
  if txBase ≤ a ∧ a < 0xC000 then s.txPuts (a - txBase) (lanes v w.bytes) else s

/-- R210-R212: a host write. -/
def State.hostWrite (s : State) (w : Width) (addr : BitVec 16) (v : Word) : Host.Outcome State Fault Refusal :=
  if busError w addr.toNat then .next { s with bus := { error := true, data := 0 } }
  else
    let s := { s with bus := { error := false, data := 0 } }
    if addr.toNat = 0 then s.issue v
    else if inRegisterSpace addr.toNat then .next (s.writeRegister addr.toNat v)
    else .next (s.writeWindow w addr.toNat v)

/-! ## The transport and reset -/

/-- R851: the delivery of a frame is enabled. -/
def State.deliverEnabled (s : State) (frame : List Byte) : Bool :=
  s.rxArmed && 1 ≤ frame.length && frame.length ≤ s.cfg.rxBufSize

/-- R851 `deliver(bytes, n)`; a frame that may not be delivered is the transport's to drop (U4, U5; log 6). -/
def State.deliver (s : State) (frame : List Byte) : State :=
  if s.deliverEnabled frame then
    { s with
      mem := Memory.writeBytes s.mem rxBase frame
      rxLen := BitVec.ofNat 16 frame.length
      rxArmed := false }
  else s

/-- U3: `n` free bytes, from the counter on. -/
def freeBytes (k : Nat) : Nat → List Byte
  | 0 => []
  | n + 1 => Config.freeWireByte k :: freeBytes (k + 1) n

/-- R230, R231: the bytes the transport puts on the wire for the frame in flight: those of TXBUF, or free ones
once F_TX_OVERWRITE is set (log 2).  That it is one frame, of TX_LEN bytes, after an overwrite too is a DESIGN CHOICE
(log 19, unsafe): R231 and U3 free the bytes and say nothing of the number or the length of the frames. -/
def State.wireFrame (s : State) : List Byte :=
  if s.fTxOverwrite then freeBytes s.freeCount s.txLen.toNat else Memory.bytes s.mem txBase s.txLen.toNat

/-- R852 `tx_complete()`: TX_PROTO <- 0, when a frame is in flight; the model notes what went on the wire: one frame
for each completion, however many were handed over since the last (DESIGN CHOICE, log 19). -/
def State.txComplete (s : State) : State :=
  if s.txBusy then
    { s with
      txProto := 0
      wire := s.wire ++ [s.wireFrame]
      freeCount := if s.fTxOverwrite then s.freeCount + s.txLen.toNat else s.freeCount }
  else s

/-- R900: hardware reset; the outputs already given and the coming moves are not the block's to clear. -/
def State.hardReset (s : State) : State :=
  { State.resetWith s.cfg with
    trace := s.trace
    bus := s.bus
    wire := s.wire
    freeCount := s.freeCount
    agenda := s.agenda }

/-- R221: one atomic step of one agent. -/
def State.turn (s : State) : Turn → Host.Outcome State Fault Refusal
  | .hostRead w a => .next (s.hostRead w a)
  | .hostWrite w a v => s.hostWrite w a v
  | .deliver frame => .next (s.deliver frame)
  | .txComplete => .next s.txComplete
  | .resume => .next s.resume
  | .hardReset => .next s.hardReset

/-- R221, R840: the next move on the agenda is made; when none is left the block resumes a hold it may resume
(R840: it is fair to itself), and otherwise stays as it is. -/
def State.advance (s : State) : Host.Outcome State Fault Refusal :=
  match s.agenda with
  | [] => .next s.resume
  | t :: rest => State.turn { s with agenda := rest } t

/-- Put the host's write of a command word next on the agenda. -/
def State.withCommand (s : State) (w : Word) : State := { s with agenda := .hostWrite .w32 0 w :: s.agenda }

end Sys2Proof.Machine
end

