-- ==== Sys2Proof/Machine/Step.lean ====
section
/-! DEFINITION. One step of the machine: one atomic step of one agent (R220, R221). -/
namespace Sys2Proof.Machine

/-- R221: the next move of the agenda, or the block's own. -/
def step (s : State) : Host.Outcome State Fault Refusal := s.advance

/-- The block fetches no command (R225): a command comes as the host's write to CMD (R104), so the word is put
next on the agenda as that write. -/
def State.withFetchWord (s : State) (nbits w : Nat) : State :=
  s.withCommand (BitVec.ofNat 32 (w % 2 ^ nbits))

end Sys2Proof.Machine
end

