-- ==== Sys2Proof/WellFormed.lean ====
section
/-! DEFINITION. The static part of the field checks of R303: the index of a command fits its table. -/
namespace Sys2Proof

/-- R303, last item: CIDX below P_NCONN for a TCP command that names a connection, below P_NSERV for SVC_REG.
The other checks of R303 (RSV, unused CIDX and IMM bits) cannot fail for a value of `Instr`: `decode` makes them. -/
def Instr.wellFormed (c : Config) : Instr → Bool
  | .init | .poll | .ethAcq _ | .ethTx _ | .setMore _ | .ethRx _ | .arpRx _ | .csum _ | .ipRx _ => true
  | .ipAcq _ | .ipTx _ | .tcpRx _ | .tcpFind | .cbRet _ => true
  | .tcpAcq i | .tcpTx i _ | .tcpWait i | .tcpClose i => i.val < c.nConn
  | .svcReg j _ => j.val < c.nServ

end Sys2Proof
end

