-- ==== Sys2Proof/Safety.lean ====
section
/-! DEFINITION. The terms claims are stated in: the error table of R802 and R803, the exact checksum sum, the
state invariant, the single-flight invariant of the TX buffer. -/
namespace Sys2Proof.Machine

/-! ## Which errors apply to a command (R802), and in which order (R803) -/

/-- R803: the order of the checks. -/
def errorOrder : List CmdError :=
  [.busy, .illegalOpc, .rsvBits, .notInCb, .reentrant, .cidx, .connFree, .range, .noReply, .etype0]

/-- R834: the commands accepted while SEQ is CB_WAIT. -/
def inNestedSet : Instr → Bool
  | .ethAcq _ | .ethTx _ | .setMore _ | .csum _ | .ipAcq _ | .ipTx _ | .tcpFind => true
  | .tcpAcq _ | .tcpTx _ _ | .tcpWait _ | .tcpClose _ | .cbRet _ => true
  | .init | .poll | .ethRx _ | .arpRx _ | .ipRx _ | .tcpRx _ | .svcReg _ _ => false

/-- The connection a command needs bound (R802, E_CONN_FREE). -/
def boundOperand : Instr → Option Slot
  | .tcpAcq i | .tcpTx i _ | .tcpClose i => some i
  | _ => none

/-- The E_RANGE condition of a command's own rule (R404, R406, R450, R501, R550, R560, R600, R660). -/
def rangeApplies (s : State) : Instr → Bool
  | .ethTx n => s.cfg.txBufSize < 14 + n.toNat
  | .ethRx n => s.cfg.rxBufSize < n.toNat
  | .arpRx n => s.cfg.rxBufSize < 14 + n.toNat
  | .csum n => !s.inRange (loHalf s.arg1).toNat n.toNat
  | .ipRx n => s.cfg.rxBufSize < 14 + n.toNat
  | .ipTx n => s.cfg.txBufSize < 34 + n.toNat
  | .tcpRx n => s.cfg.rxBufSize < 34 + n.toNat
  | .tcpTx _ n => s.cfg.txBufSize < 54 + n.toNat
  | _ => false

/-- R802: the cause of each error, for a decoded command. -/
def errorApplies (s : State) (i : Instr) : CmdError → Bool
  | .busy => s.isHeld
  | .illegalOpc => false
  | .rsvBits => false
  | .notInCb => match i with
    | .cbRet _ => s.isIdle
    | _ => false
  | .reentrant => s.inCallback && !inNestedSet i
  | .cidx => !i.wellFormed s.cfg
  | .connFree => match boundOperand i with
    | some c => (s.conn c).remoteIp == 0
    | none => false
  | .range => rangeApplies s i
  | .noReply => match i with
    | .tcpTx c _ => !(s.conn c).replyPending
    | _ => false
  | .etype0 => match i with
    | .ethTx _ | .ipTx _ | .tcpTx _ _ => Memory.read16 s.mem (txBase + 12) == 0
    | _ => false

/-- R803: the error a command reports, if any check fails. -/
def reportedError (s : State) (i : Instr) : Option CmdError := errorOrder.find? (errorApplies s i)

/-- R800: a command that reports an error records it, and does nothing else. -/
abbrev RejectedAsReported (s : State) (i : Instr) : Prop :=
  ∀ e, reportedError s i = some e → exec i s = .next { s with err := some e, errCmd := s.cmdLast }

/-! ## Checksums -/

/-- The exact sum of big-endian 16-bit words, an odd trailing byte padded with zero (R500, R502). -/
def wordSum : List Byte → Nat
  | [] => 0
  | [b] => b.toNat * 256
  | b0 :: b1 :: rest => b0.toNat * 256 + b1.toNat + wordSum rest

/-- R502: the folded value of an exact sum. -/
def onesFold (sum : Nat) : Nat := if sum = 0 then 0 else (sum - 1) % 0xFFFF + 1

/-- The exact pseudo-header sum of R350 and R640. -/
def pseudoSum (src dst : Word) (tl : Nat) : Nat :=
  src.toNat / 65536 + src.toNat % 65536 + dst.toNat / 65536 + dst.toNat % 65536 + 6 + tl

/-! ## Command words (R303, R305, R306) -/

/-- R305: the OPC values of the opcode map. -/
def legalOpcodes : List Byte :=
  [0x01, 0x02, 0x03, 0x04, 0x05, 0x06, 0x10, 0x18, 0x20, 0x21, 0x22, 0x30, 0x31, 0x32, 0x33, 0x34, 0x35, 0x40, 0x41]

/-- R301, R303: the commands that use CIDX. -/
def cidxOpcodes : List Byte := [0x32, 0x33, 0x34, 0x35, 0x40]

/-- R303: INIT, POLL, TCP_FIND, TCP_ACQ, TCP_WAIT and TCP_CLOSE need IMM = 0. -/
def immZeroOpcodes : List Byte := [0x01, 0x02, 0x31, 0x32, 0x34, 0x35]

/-- R303: the reserved-bits error of a word whose OPC is legal. -/
def reservedBitsSet (w : Word) : Bool :=
  w.toNat / 2 ^ 12 % 16 != 0 ||
    (!cidxOpcodes.contains (opcField w) && w.toNat / 2 ^ 8 % 16 != 0) ||
    (immZeroOpcodes.contains (opcField w) && w.toNat / 2 ^ 16 != 0) ||
    (opcField w == 0x21 && w.toNat / 2 ^ 24 != 0) ||
    (opcField w == 0x05 && w.toNat / 2 ^ 17 != 0)

/-! ## Packet drops (R811): the log events of a dropped packet, `none` for a packet that is not dropped -/

/-- R601, R606: a TCP segment of `len` bytes. -/
def State.dropTcp (s : State) (len : Nat) : Option (List Event) :=
  if len < 20 then some []
  else if (s.find (s.rx16 36) (s.rx16 34)).isNone && !(s.rx8 47).getLsbD 1 then some []
  else none

/-- R551: an IPv4 datagram of `n` bytes. -/
def State.dropIp (s : State) (n : Nat) : Option (List Event) :=
  if n < 20 then some []
  else if s.rx8 23 = 1 then some [.log .icmp 0]
  else if s.rx8 23 = 6 then s.dropTcp (n - 20)
  else if s.rx8 23 = 17 then none
  else some [.log .ipProto (BitVec.ofNat 32 (s.rx8 23).toNat)]

/-- R451: an ARP packet of `n` bytes. -/
def State.dropArp (s : State) (n : Nat) : Option (List Event) :=
  if n < 28 then some []
  else if s.rx16 14 ≠ 1 ∨ s.rx16 16 ≠ 0x0800 then
    some [.log .arpType (BitVec.ofNat 32 ((s.rx16 14).toNat * 65536 + (s.rx16 16).toNat))]
  else if s.rx16 20 ≠ 1 then some []
  else if s.rx32 38 ≠ s.cfg.localIp then some []
  else none

/-- R407: an Ethernet frame of `n` bytes. -/
def State.dropEth (s : State) (n : Nat) : Option (List Event) :=
  if n < 14 then some []
  else if s.rx16 12 = 0x0800 then s.dropIp (n - 14)
  else if s.rx16 12 = 0x0806 then s.dropArp (n - 14)
  else some [.log .ethType (BitVec.ofNat 32 (s.rx16 12).toNat)]

/-! ## What frames are built -/

/-- The premise of every statement that reads bytes back: parameters within their bounds, memory canonical.  Both
are parts of `State.Inv`, which every step keeps. -/
abbrev State.Ok (s : State) : Prop := s.cfg.wf ∧ Memory.wf s.mem

/-- R320, R403: the Ethernet header of `t`'s TX buffer, built from `s`: destination the source MAC of the frame in
RXBUF, source MAC, EtherType. -/
structure EthHeader (s t : State) (et : Half) : Prop where
  dest : ∀ k, k < 6 → t.tx8 k = s.rx8 (6 + k)
  src : ∀ k, k < 6 → (t.tx8 (6 + k)).toNat = s.mac.toNat / 256 ^ (5 - k) % 256
  etherType : t.tx16 12 = et

/-- R330, R556: the fields of an IPv4 header that an acquire fixes. -/
structure IpHeaderFields (s t : State) (dest : Word) (proto : Byte) : Prop where
  versionIhl : t.tx8 14 = 0x45
  tos : t.tx8 15 = 0
  ident : t.tx16 18 = 0
  fragment : t.tx16 20 = 0
  ttl : t.tx8 22 = 64
  protocol : t.tx8 23 = proto
  source : t.tx32 26 = s.cfg.localIp
  destination : t.tx32 30 = dest

/-- R340: the fields of a built TCP header but its checksum. -/
structure TcpHeaderFields (t : State) (sport dport : Half) (seq ack : Word) (flags : Byte) (window : Half) : Prop where
  sourcePort : t.tx16 34 = sport
  destPort : t.tx16 36 = dport
  sequence : t.tx32 38 = seq
  acknowledge : t.tx32 42 = ack
  offset : t.tx8 46 = 0x50
  flagByte : t.tx8 47 = flags
  windowField : t.tx16 48 = window
  urgent : t.tx16 52 = 0

/-- R504, R561: the IPv4 header in the TX buffer has total length `n` and sums to 0xFFFF.  Of the two checksums
that do this, 0 and 0xFFFF, the block stores 0 ("no substitution of 0xFFFF", R504). -/
structure IpSealed (t : State) (n : Nat) : Prop where
  totalLength : (t.tx16 16).toNat = n
  sum : onesFold (wordSum (Memory.bytes t.mem 0x800E 20)) = 0xFFFF
  notAllOnes : t.tx16 24 ≠ 0xFFFF

/-- R504, R640: the TCP segment of `tl` bytes in the TX buffer sums to 0xFFFF with its pseudo-header, and its
checksum is not 0xFFFF (as in `IpSealed`). -/
structure TcpSealed (t : State) (tl : Nat) : Prop where
  sum : onesFold (pseudoSum (t.tx32 26) (t.tx32 30) tl + wordSum (Memory.bytes t.mem 0x8022 tl)) = 0xFFFF
  notAllOnes : t.tx16 50 ≠ 0xFFFF

/-- R404: `t` has handed over the first `n` bytes of its TX buffer, as exactly one event after `s`'s trace, followed
by the events `after`. -/
structure HandedOver (s t : State) (n : Nat) (after : List Event) : Prop where
  event : t.trace = s.trace ++ .frameSent (Memory.bytes t.mem 0x8000 n) n :: after
  proto : t.txProto = t.tx16 12
  length : t.txLen.toNat = n

/-- A 54-byte TCP segment built by the block and handed over (R613, R640, R650, R660): every header field, both
checksums, the hand-over, and no other byte of memory changed. -/
structure SegmentSent (s t : State) (dest : Word) (sport dport : Half) (seq ack : Word) (flags : Byte)
    (window : Half) (after : List Event) : Prop where
  eth : EthHeader s t 0x0800
  ip : IpHeaderFields s t dest 6
  tcp : TcpHeaderFields t sport dport seq ack flags window
  ipSealed : IpSealed t 40
  tcpSealed : TcpSealed t 20
  handed : HandedOver s t 54 after
  elsewhere : ∀ a, a < 0x8000 ∨ 0x8036 ≤ a → Memory.read t.mem a = Memory.read s.mem a

/-- The bytes a send without data may write in a header that stands in the TX buffer: the IPv4 total length and
checksum, the TCP flags and checksum (R561, R640, R660). -/
def sealedBytes : List Nat := [0x8010, 0x8011, 0x8018, 0x8019, 0x802F, 0x8032, 0x8033]

/-- R650, R660: a pending header of the TX buffer, reused as it stands: flags added, lengths and checksums stored, no
other byte of memory changed. -/
structure PendingSealed (s t : State) (flags : Byte) : Prop where
  flagByte : t.tx8 47 = s.tx8 47 ||| flags
  ipSealed : IpSealed t 40
  tcpSealed : TcpSealed t 20
  elsewhere : ∀ a, a ∉ sealedBytes → Memory.read t.mem a = Memory.read s.mem a

/-- R404: a frame with a zero EtherType is logged, as exactly one event after `s`'s trace followed by the events
`after`, and not handed over. -/
structure NotHandedOver (s t : State) (after : List Event) : Prop where
  event : t.trace = s.trace ++ .log .txEtype0 0 :: after
  proto : t.txProto = s.txProto
  length : t.txLen = s.txLen

/-- R650, R660, R404: the reply of connection `i` without data, with `flags` besides ACK: built from the connection,
or the pending one reused; a pending one whose EtherType the host has zeroed is finished in the buffer but not sent. -/
structure ReplySent (s t : State) (i : Slot) (flags : Byte) (after : List Event) : Prop where
  built : (s.conn i).replyPending = false →
    SegmentSent s t (s.conn i).remoteIp (s.conn i).localPort (s.conn i).remotePort (s.conn i).localSeq
      (s.conn i).remoteSeq (0x10 ||| flags) s.cfg.tcpWindow after
  reused : (s.conn i).replyPending = true → PendingSealed s t flags
  sent : (s.conn i).replyPending = true → s.tx16 12 ≠ 0 → HandedOver s t 54 after
  logged : (s.conn i).replyPending = true → s.tx16 12 = 0 → NotHandedOver s t after

/-- The reply of connection `i` can be handed over: a pending header in the TX buffer has an EtherType (R404). -/
abbrev State.CanReply (s : State) (i : Slot) : Prop := (s.conn i).replyPending = true → s.tx16 12 ≠ 0

/-- `t` differs from `s` at most in what sending a segment on connection `i` and ending or suspending a command
change. -/
abbrev SendFrameRule (s t : State) (i : Slot) : Prop :=
  t = { s with
    mem := t.mem, txProto := t.txProto, txLen := t.txLen, trace := t.trace, seq := t.seq, rxLen := t.rxLen,
    rxArmed := t.rxArmed, result := t.result, done := t.done, conns := s.conns.set i (t.conn i) }

/-- R325, R452: the ARP reply in `t`'s TX buffer, for the request in `s`'s RX buffer. -/
structure ArpReplyFields (s t : State) : Prop where
  hardware : t.tx16 14 = 1
  protocol : t.tx16 16 = 0x0800
  lengths : t.tx8 18 = 6 ∧ t.tx8 19 = 4
  opcode : t.tx16 20 = 2
  senderHardware : ∀ k, k < 6 → (t.tx8 (22 + k)).toNat = s.mac.toNat / 256 ^ (5 - k) % 256
  senderProtocol : t.tx32 28 = s.cfg.localIp
  targetHardware : ∀ k, k < 6 → t.tx8 (32 + k) = s.rx8 (22 + k)
  targetProtocol : t.tx32 38 = s.rx32 28

/-- R452, R454: one ARP reply of 42 bytes built and handed over, no other byte of memory changed. -/
structure ArpReplySent (s t : State) (after : List Event) : Prop where
  eth : EthHeader s t 0x0806
  arp : ArpReplyFields s t
  handed : HandedOver s t 42 after
  elsewhere : ∀ a, a < 0x8000 ∨ 0x802A ≤ a → Memory.read t.mem a = Memory.read s.mem a

/-! ## The received segment, read from RXBUF -/

/-- R451: the ARP packet of `n` bytes in RXBUF is a well-formed REQUEST for LOCAL_IP. -/
abbrev State.ArpRequestForUs (s : State) (n : Nat) : Prop :=
  28 ≤ n ∧ s.rx16 14 = 1 ∧ s.rx16 16 = 0x0800 ∧ s.rx16 20 = 1 ∧ s.rx32 38 = s.cfg.localIp

/-- R605: connection `i` matches the ports of the segment in RXBUF. -/
abbrev State.Matched (s : State) (i : Slot) : Prop :=
  i.val < s.cfg.nConn ∧ (s.conn i).remoteIp ≠ 0 ∧ (s.conn i).localPort = s.rx16 36 ∧ (s.conn i).remotePort = s.rx16 34

/-- R610: slot `i` is free. -/
abbrev State.FreeAt (s : State) (i : Slot) : Prop := i.val < s.cfg.nConn ∧ (s.conn i).remoteIp = 0

/-- R611: service `j` listens on the destination port of the segment in RXBUF. -/
abbrev State.Serves (s : State) (j : Slot) : Prop :=
  j.val < s.cfg.nServ ∧ (s.svc j).valid = true ∧ (s.svc j).port = s.rx16 36

/-- The lowest index with a property (the scan order of R605, R610 and R611). -/
abbrev Least (p : Slot → Prop) (i : Slot) : Prop := p i ∧ ∀ j, j < i → ¬ p j

/-- R401, R406, R407, R550, R551, R554, R600: the receive command `cmd` hands the TCP unit a segment of `len` bytes
in RXBUF, and ends as `tail` says. -/
def State.HandsTcp (s : State) (cmd : Instr) (tail : Tail) (len : Nat) : Prop :=
  (cmd = .poll ∧ tail = .poll ∧ s.moreCb = false ∧ s.rx16 12 = 0x0800 ∧ s.rx8 23 = 6 ∧ s.rxLen.toNat = 34 + len) ∨
  (tail = .direct ∧ ∃ n : Half,
    (cmd = .ethRx n ∧ n.toNat ≤ s.cfg.rxBufSize ∧ s.rx16 12 = 0x0800 ∧ s.rx8 23 = 6 ∧ n.toNat = 34 + len) ∨
    (cmd = .ipRx n ∧ 14 + n.toNat ≤ s.cfg.rxBufSize ∧ s.rx8 23 = 6 ∧ n.toNat = 20 + len) ∨
    (cmd = .tcpRx n ∧ 34 + n.toNat ≤ s.cfg.rxBufSize ∧ n.toNat = len))

/-- R401, R406, R407, R550, R551: the receive command `cmd` hands the host's UDP dispatcher a datagram whose payload
has `len` bytes, and ends as `tail` says. -/
def State.HandsUdp (s : State) (cmd : Instr) (tail : Tail) (len : Nat) : Prop :=
  (cmd = .poll ∧ tail = .poll ∧ s.moreCb = false ∧ s.rx16 12 = 0x0800 ∧ s.rx8 23 = 17 ∧ s.rxLen.toNat = 34 + len) ∨
  (tail = .direct ∧ ∃ n : Half,
    (cmd = .ethRx n ∧ n.toNat ≤ s.cfg.rxBufSize ∧ s.rx16 12 = 0x0800 ∧ s.rx8 23 = 17 ∧ n.toNat = 34 + len) ∨
    (cmd = .ipRx n ∧ 14 + n.toNat ≤ s.cfg.rxBufSize ∧ s.rx8 23 = 17 ∧ n.toNat = 20 + len))

/-- R601: with no command suspended, `cmd` brings a segment of `len` bytes that is not undersized. -/
abbrev State.TcpArrives (s : State) (cmd : Instr) (tail : Tail) (len : Nat) : Prop :=
  s.seq = .idle ∧ s.HandsTcp cmd tail len ∧ 20 ≤ len

/-- The events with which a receive command ends (R410). -/
def Tail.events : Tail → List Event
  | .poll => [.rxRearm]
  | .direct => []

/-- R401, R406, R410, R550, R600: how a receive command ends: POLL re-arms and answers 3, a direct command answers 0. -/
def State.ends (s : State) (tail : Tail) : State :=
  match tail with
  | .poll => { s with rxLen := 0, rxArmed := true, trace := s.trace ++ [.rxRearm], result := 3, done := true }
  | .direct => { s with result := 0, done := true }

/-- The registers in which a receive command has ended, or not (`State.ends`). -/
abbrev EndedAs (s t : State) (tail : Tail) : Prop :=
  t.rxLen = (s.ends tail).rxLen ∧ t.rxArmed = (s.ends tail).rxArmed ∧ t.result = (s.ends tail).result ∧ t.done = true

/-- R616, R617, R840: the reply of connection `i`, and the hold that follows it: with a segment in flight the command
is held at `k`; a reply that was not handed over leaves TX_PROTO 0, the hold passes and the command ends. -/
structure ReplyThenHold (s t : State) (i : Slot) (flags : Byte) (tail : Tail) (k : HoldK) : Prop where
  reply : ReplySent s t i flags (if s.CanReply i then [] else tail.events)
  held : s.CanReply i → t.seq = .hold k ∧ t.result = s.result ∧ t.done = s.done ∧ t.rxLen = s.rxLen ∧
    t.rxArmed = s.rxArmed
  passed : ¬ s.CanReply i → t.seq = .idle ∧ EndedAs s t tail

/-- R602, R346: the header length of the segment in RXBUF. -/
def State.rxHeaderLen (s : State) : Nat := 4 * ((s.rx8 46).toNat / 16)
/-- R602: FIN. -/
def State.rxFin (s : State) : Bool := (s.rx8 47).getLsbD 0
/-- R602: SYN. -/
def State.rxSyn (s : State) : Bool := (s.rx8 47).getLsbD 1
/-- R602: ACK. -/
def State.rxAck (s : State) : Bool := (s.rx8 47).getLsbD 4

/-- R616, R617: connection `i` after "if ACK: LOCAL_SEQ <- sack". -/
def State.acked (s : State) (i : Slot) : Conn :=
  { s.conn i with localSeq := if s.rxAck then s.rx32 42 else (s.conn i).localSeq }

/-! ## Reset (R900) -/

/-- R900: every register, flag, slot and buffer byte at its reset value, under parameters `c`. -/
structure ResetValues (c : Config) (s : State) : Prop where
  parameters : s.cfg = c
  sequencer : s.seq = .idle
  commandRegisters : s.cmdLast = 0 ∧ s.arg0 = 0 ∧ s.arg1 = 0 ∧ s.result = 0
  status : s.statusWord = 0
  irqMask : s.irqEn = 0
  callbackRegisters : s.cbInfoWord = 0 ∧ s.cbAddr = 0 ∧ s.cbLen = 0 ∧ s.cbRetval = 0
  errorWord : s.errCmd = 0
  macAddress : s.mac = c.mac
  receiver : s.rxLen = 0 ∧ s.rxArmed = true
  sender : s.txProto = 0 ∧ s.txLen = 0 ∧ s.moreCb = false
  buffers : ∀ a, Memory.read s.mem a = 0
  connections : ∀ i, s.conn i = Conn.zero
  services : ∀ j, s.svc j = Svc.zero

/-! ## Continuations -/

/-- The callback kind a continuation waits for (R830). -/
def CallbackK.kind : CallbackK → CbKind
  | .more => .more
  | .udp _ => .udpRx
  | .accept _ _ _ => .accept
  | .process _ _ _ => .process
  | .closed _ _ _ => .closed

/-- The connection a callback is about; 0 where there is none (R112). -/
def CallbackK.slot : CallbackK → Slot
  | .more => 0
  | .udp _ => 0
  | .accept _ _ i => i
  | .process _ _ i => i
  | .closed _ _ i => i

/-- The connections a hold continuation names. -/
def HoldK.slot : HoldK → Option Slot
  | .command (.tcpWait i) => some i
  | .command (.tcpClose i) => some i
  | .synAck _ _ i => some i
  | .rst _ _ => none
  | .estReply _ _ i => some i
  | .estDone _ _ i => some i
  | .finReply _ _ i => some i
  | .finDone _ _ i => some i

/-- K_OUTER of a callback (R103). -/
def Sequencer.callback : Sequencer → Option CallbackK
  | .cbWait k => some k
  | .cbHold k _ => some k
  | .idle => none
  | .hold _ => none

/-- Every connection a continuation names exists. -/
def Sequencer.slotsExist (n : Nat) : Sequencer → Prop
  | .idle => True
  | .hold k => ∀ i, k.slot = some i → i.val < n
  | .cbWait k => k.slot.val < n
  | .cbHold k c => k.slot.val < n ∧ ∀ i, (HoldK.command c).slot = some i → i.val < n

/-! ## The state invariant -/

/-- What holds of every state the block can be in.  Held at reset and kept by every step. -/
structure State.Inv (s : State) : Prop where
  /-- The parameters are within R10, R11 and R17. -/
  cfgOk : s.cfg.wf
  /-- The memory is in canonical form. -/
  memCanonical : Memory.wf s.mem
  /-- No byte outside the two buffers is listed (R200). -/
  memInBuffers : ∀ c ∈ s.mem, s.isBufferByte c.1 = true
  /-- R115: MAC holds P_MAC. -/
  macConstant : s.mac = s.cfg.mac
  /-- R222: reception is armed exactly when there is no frame to dispatch. -/
  rxHandOff : s.rxArmed = (s.rxLen == 0)
  /-- R118, R851: the received frame lies in RXBUF. -/
  rxFits : s.rxLen.toNat ≤ s.cfg.rxBufSize
  /-- R122: the frame handed over lies in TXBUF. -/
  txFits : s.txLen.toNat ≤ s.cfg.txBufSize
  /-- R619: a non-free slot is never CLOSED. -/
  boundNotClosed : ∀ i, (s.conn i).remoteIp ≠ 0 → (s.conn i).state ≠ .closed
  /-- R132: only a bound connection has a pending reply. -/
  pendingBound : ∀ i, (s.conn i).replyPending = true → (s.conn i).remoteIp ≠ 0
  /-- R130: the matched service exists. -/
  connService : ∀ i, (s.conn i).svc.val < s.cfg.nServ
  /-- R130: slots at and beyond P_NCONN hold nothing. -/
  connBeyond : ∀ i : Slot, s.cfg.nConn ≤ i.val → s.conn i = Conn.zero
  /-- R140: slots at and beyond P_NSERV hold nothing. -/
  svcBeyond : ∀ j : Slot, s.cfg.nServ ≤ j.val → s.svc j = Svc.zero
  /-- R112, R830: KIND is that of the outstanding callback, and 0 without one. -/
  kindOfCallback : s.cbKind = (s.seq.callback.map CallbackK.kind).getD .none
  /-- R112: CB_INFO.CONN names the connection of the outstanding callback. -/
  connOfCallback : ∀ k, s.seq.callback = some k → s.cbConn = k.slot
  /-- R103: the continuations name existing connections. -/
  slotsExist : s.seq.slotsExist s.cfg.nConn

/-! ## Single flight (R222, R230, R231) -/

/-- The frame of the last `frame_sent` event of a trace. -/
def lastSent : List Event → Option (List Byte)
  | [] => none
  | e :: rest =>
    match lastSent rest with
    | some f => some f
    | none => match e with
      | .frameSent bytes _ => some bytes
      | .rxRearm => none
      | .log _ _ => none

/-- R230: while a frame is in flight and no overwrite has been flagged, TXBUF still holds the bytes its
`frame_sent` event recorded. -/
def State.FlightIntact (s : State) : Prop :=
  s.txBusy = true → s.fTxOverwrite = false →
    lastSent s.trace = some (Memory.bytes s.mem txBase s.txLen.toNat)

/-- A safe run: F_TX_OVERWRITE has never been set ("every claim takes F_TX_OVERWRITE == 0 as a premise", R231). -/
def State.Safe (s : State) : Prop := s.fTxOverwrite = false

end Sys2Proof.Machine
end

