-- ==== Sys2Proof/Certificates/Slice0/Obligations.lean ====
section
/-! DEFINITION. The statements for the provers.  Each docstring names the rule of spec/ it formalises, or says that it
is derived or the model's own. -/

open Sys2Proof Sys2Proof.Machine

/-! ## Encoding -/

/-- Decode and encode agree, for every command with every operand (derived: R301, R305). -/
def Obligations.DecodeEncode : Prop := ∀ i : Instr, decode (encode i) = .ok i

/-- A word has one meaning: what decodes to a command is that command's word (derived: R301, R303, R305). -/
def Obligations.EncodeDecode : Prop := ∀ (w : Word) (i : Instr), decode w = .ok i → encode i = w

/-- R306: exactly the words whose OPC is not in the map are illegal, and such a word written to CMD does nothing but
record E_ILLEGAL_OPC (outside a hold, where R803 puts E_BUSY first). -/
def Obligations.IllegalOpcodeRejected : Prop :=
  ∀ (s : State) (w : Word),
    (decode w = .error .illegalOpc ↔ opcField w ∉ legalOpcodes) ∧
    (opcField w ∉ legalOpcodes → s.isHeld = false →
      s.issue w = .next { s with cmdLast := w, err := some .illegalOpc, errCmd := w })

/-- R303: the reserved-bit checks and the index check of a word whose OPC is legal. -/
def Obligations.FieldChecks : Prop :=
  ∀ (s : State) (w : Word), opcField w ∈ legalOpcodes →
    (decode w = .error .rsvBits ↔ reservedBitsSet w = true) ∧
    (reservedBitsSet w = true → s.isHeld = false →
      s.issue w = .next { s with cmdLast := w, err := some .rsvBits, errCmd := w }) ∧
    (∀ i, decode w = .ok i → i.wellFormed s.cfg = false → s.seq = .idle →
      s.issue w = .next { s with cmdLast := w, err := some .cidx, errCmd := w })

/-- Words written out from R301 and R305 decode to their commands (95_test_vectors.md section 2). -/
def Obligations.WrittenWordsDecode : Prop :=
  decode 0x08060003 = .ok (.ethAcq 0x0806) ∧ decode 0x00010005 = .ok (.setMore true) ∧
  decode 0x001C0010 = .ok (.arpRx 28) ∧ decode 0x00040018 = .ok (.csum 4) ∧
  decode 0x00060021 = .ok (.ipAcq 6) ∧ decode 0x00050133 = .ok (.tcpTx 1 5) ∧
  decode 0x04D20040 = .ok (.svcReg 0 1234) ∧ decode 0x00010041 = .ok (.cbRet 1) ∧
  decode 0x00000000 = .error .illegalOpc ∧ decode 0x00001002 = .error .rsvBits

/-! ## Reset and invariants -/

/-- R900: every piece of state at its reset value, for any parameters, and after a hardware reset in any state,
suspended commands included; reset emits no event. -/
def Obligations.ResetState : Prop :=
  (∀ c : Config, ResetValues c (State.resetWith c)) ∧
  ∀ (s : State) (rest : List Turn), s.agenda = .hardReset :: rest →
    ∃ t, step s = .next t ∧ ResetValues s.cfg t ∧ t.trace = s.trace ∧ t.agenda = rest

/-- Both invariants hold at reset, for every choice of parameters within R10, R11 and R17, those of `State.reset`
(the spec's examples, the model's choice, log 1) among them (derived: R900). -/
def Obligations.InvariantsAtReset : Prop :=
  (State.reset.Inv ∧ State.reset.FlightIntact) ∧
  ∀ c : Config, c.wf → (State.resetWith c).Inv ∧ (State.resetWith c).FlightIntact

/-- Every step of every agent keeps the state invariant (derived: R112, R115, R118, R119, R130, R132, R134, R200,
R222, R619, R830). -/
def Obligations.StepKeepsInv : Prop := ∀ s t : State, s.Inv → step s = .next t → t.Inv

/-- Single flight: as long as F_TX_OVERWRITE is 0, every step keeps TXBUF equal to the bytes of the frame in flight
(derived: R222, R230, R231). -/
def Obligations.StepKeepsFlight : Prop :=
  ∀ s t : State, s.Inv → s.FlightIntact → step s = .next t → t.FlightIntact

/-- No step stops the machine, whatever the state: no fault, no refusal; and no step changes the parameters.  For
commands this follows from the spec's rules (derived: R800, R801, R804, R841; R10 to R17, R116).  For the rest it is the
model's choice: a `deliver` or `tx_complete` that R851 or R852 does not enable changes nothing, where U4 and U5 say
'refuse' (log 6); a TX overwrite, which R231 and U3 treat as a fault of the run, sets its status bit and stops nothing
(log 10); a host access always has an answer, a bus error among them (R210, log 4). -/
def Obligations.StepAnswersNext : Prop := ∀ s : State, ∃ t, step s = .next t ∧ t.cfg = s.cfg

/-- The event trace is only appended to (derived: R861, R900). -/
def Obligations.TraceOnlyGrows : Prop := ∀ s t : State, step s = .next t → s.trace <+: t.trace

/-! ## One step -/

/-- A step in which the host writes a word to CMD runs the command the word decodes to, with CMD_LAST holding the
word; a word that is no command is rejected; a word placed with `withFetchWord` is such a write (derived: R104, R221,
R800, R801, R803; that the next move of an agent stands in `State.agenda` is the model's choice, log 3). -/
def Obligations.StepRunsDecodedCommand : Prop :=
  ∀ (s : State) (w : Word),
    (∀ rest, s.agenda = .hostWrite .w32 0 w :: rest →
      (∀ i, decode w = .ok i →
        step s = exec i { s with agenda := rest, bus := { error := false, data := 0 }, cmdLast := w }) ∧
      (∀ e, decode w = .error e →
        step s = .next { s with
          agenda := rest, bus := { error := false, data := 0 }, cmdLast := w, errCmd := w,
          err := some (if s.isHeld then .busy else .ofDecode e) })) ∧
    (∀ i, decode w = .ok i →
      step (s.withFetchWord 32 w.toNat) = exec i { s with bus := { error := false, data := 0 }, cmdLast := w })

/-! ## Command errors (60_exceptions.md section 1) -/

/-- R800, R803: of all errors that apply, the first in R803's order is recorded, and nothing else changes. -/
def Obligations.FirstFailingCheckReported : Prop :=
  ∀ (s : State) (w : Word),
    (∀ i e, decode w = .ok i → reportedError s i = some e →
      s.issue w = .next { s with cmdLast := w, err := some e, errCmd := w }) ∧
    (∀ d, decode w = .error d →
      s.issue w = .next { s with cmdLast := w, err := some (if s.isHeld then .busy else .ofDecode d), errCmd := w })

/-- An accepted command other than INIT leaves ERRV, ERR and ERR_CMD as they are (derived: R801). -/
def Obligations.AcceptedKeepsErrors : Prop :=
  ∀ (i : Instr) (s t : State), reportedError s i = none → i ≠ .init → exec i s = .next t →
    t.err = s.err ∧ t.errCmd = s.errCmd

/-- No byte of a received packet makes a command be rejected, or a receive command stop: the error a command reports
is the same whatever stands in RXBUF, and idle, with a length that its own range check lets pass, every receive
command goes on and records no error (derived: R406, R450, R550, R600, R804). -/
def Obligations.ReceivedBytesNeverReject : Prop :=
  (∀ (s : State) (m : Memory) (i : Instr), (∀ a, 0x8000 ≤ a → Memory.read m a = Memory.read s.mem a) →
    reportedError { s with mem := m } i = reportedError s i) ∧
  ∀ (s : State) (n : Half) (i : Instr), s.seq = .idle →
    (i = .poll ∨ (i = .ethRx n ∧ n.toNat ≤ s.cfg.rxBufSize) ∨
      ((i = .arpRx n ∨ i = .ipRx n) ∧ 14 + n.toNat ≤ s.cfg.rxBufSize) ∨
      (i = .tcpRx n ∧ 34 + n.toNat ≤ s.cfg.rxBufSize)) →
    ∃ t, exec i s = .next t ∧ t.err = s.err ∧ t.errCmd = s.errCmd

/-! ## Callbacks and nesting (60_exceptions.md section 3) -/

/-- R834: during a callback the commands outside the nested set are rejected with E_REENTRANT; the nested ones never
are. -/
def Obligations.NestedSet : Prop :=
  ∀ (s : State) (k : CallbackK), s.seq = .cbWait k →
    (∀ (n p : Half) (j : Slot),
      ∀ i ∈ [Instr.init, .poll, .ethRx n, .arpRx n, .ipRx n, .tcpRx n, .svcReg j p],
        exec i s = .next { s with err := some .reentrant, errCmd := s.cmdLast }) ∧
    (∀ (et n v : Half) (b : Bool) (p : Byte) (c : Slot),
      ∀ i ∈ [Instr.ethAcq et, .ethTx n, .setMore b, .csum n, .ipAcq p, .ipTx n, .tcpFind, .tcpAcq c, .tcpTx c n,
          .tcpWait c, .tcpClose c, .cbRet v],
        ∀ t, exec i s = .next t → t.err = some .reentrant → s.err = some .reentrant)

/-- Every command during a callback other than CB_RET leaves the callback outstanding: SEQ stays CB_WAIT, or is
CB_HOLD, with the same K_OUTER, and CB_INFO, CB_ADDR and CB_LEN are kept (derived: R833, R835). -/
def Obligations.CallbackStaysOutstanding : Prop :=
  ∀ (i : Instr) (s t : State) (k : CallbackK), s.seq = .cbWait k → (∀ v, i ≠ .cbRet v) → exec i s = .next t →
    (t.seq = .cbWait k ∨ ∃ c, t.seq = .cbHold k c) ∧
    t.cbKind = s.cbKind ∧ t.cbConn = s.cbConn ∧ t.cbSvc = s.cbSvc ∧ t.cbAddr = s.cbAddr ∧ t.cbLen = s.cbLen

/-- CB_RET records the value, clears KIND and sets DONE, and the outer command goes on in the same step: POLL's MORE
callback and the UDP dispatcher complete, CLOSED releases the slot, ACCEPT and PROCESS hold while the TX buffer is
busy (their replies are `SynAckSent` and `EstablishedReplies`) (derived: R401, R553, R611, R616, R620, R710, R831). -/
def Obligations.CallbackReturns : Prop :=
  ∀ (s : State) (v : Half) (tail : Tail) (g : Segment) (c : Slot),
    let u : State := { s with cbRetval := v, cbKind := .none, done := true, seq := .idle }
    (s.seq = .cbWait .more → exec (.cbRet v) s = .next { u with result := 2 }) ∧
    (s.seq = .cbWait (.udp tail) → exec (.cbRet v) s = .next (u.ends tail)) ∧
    (s.seq = .cbWait (.closed tail g c) →
      exec (.cbRet v) s = .next (State.ends
        { u with conns := s.conns.set c { s.conn c with remoteIp := 0, state := .closed, replyPending := false } }
        tail)) ∧
    (s.seq = .cbWait (.accept tail g c) → s.txProto ≠ 0 →
      exec (.cbRet v) s = .next { u with seq := .hold (.synAck tail g c) }) ∧
    (s.seq = .cbWait (.process tail g c) → s.txProto ≠ 0 →
      exec (.cbRet v) s = .next { u with seq := .hold (.estReply tail g c) })

/-- UDP payload is handed to the host's dispatcher through a callback, by each command that can receive it; the
callback's return value is ignored (derived: R401, R406, R407, R550, R551, R553, R831). -/
def Obligations.UdpDelivered : Prop :=
  ∀ (s : State) (cmd : Instr) (tail : Tail) (len : Nat),
    (s.seq = .idle → s.HandsUdp cmd tail len →
      exec cmd s = .next { s with
        cbKind := .udpRx, cbConn := 0, cbSvc := 0, cbAddr := 0x4022, cbLen := BitVec.ofNat 16 len
        seq := .cbWait (.udp tail) }) ∧
    (s.seq = .cbWait (.udp tail) → ∀ v : Half,
      exec (.cbRet v) s =
        .next (State.ends { s with cbRetval := v, cbKind := .none, done := true, seq := .idle } tail))

/-! ## Holds and the transport (60_exceptions.md sections 4 and 5) -/

/-- The block resumes a hold by its own step (`turn .resume`) when TX_PROTO is 0, and not before; SEQ goes back to
IDLE, or to CB_WAIT with the outer command untouched (derived: R616, R617, R670, R840).  That this step is made when
`State.agenda` lists it, and when no other move is listed, is the model's choice (log 3), and so is that it changes
nothing while TX_PROTO is not 0 (log 6).  The resumptions that send a
segment are in `TcpCloseSendsFin`, `SynAckSent`, `RefusedSynGetsRst`, `EstablishedReplies` and `FinWait1Receives`. -/
def Obligations.HoldResumes : Prop :=
  ∀ (s : State) (tail : Tail) (g : Segment) (c : Slot) (outer : CallbackK),
    (s.agenda = [] → step s = s.turn .resume) ∧
    (∀ rest, s.agenda = .resume :: rest → step s = State.turn { s with agenda := rest } .resume) ∧
    (s.txProto ≠ 0 → s.turn .resume = .next s) ∧
    (s.txProto = 0 →
      (s.seq = .hold (.command (.tcpWait c)) →
        s.turn .resume = .next { s with seq := .idle, result := 0, done := true }) ∧
      (s.seq = .cbHold outer (.tcpWait c) →
        s.turn .resume = .next { s with seq := .cbWait outer, result := 0, done := true }) ∧
      (s.seq = .hold (.estDone tail g c) → s.turn .resume = .next (State.ends { s with seq := .idle } tail)) ∧
      (s.seq = .hold (.finDone tail g c) →
        s.turn .resume = .next (State.ends
          { s with seq := .idle, conns := s.conns.set c { s.conn c with state := .closing } } tail)))

/-- A hold lasts until the transport completes or the block is reset: every other step leaves SEQ and its
continuations as they are, and every command meanwhile is rejected with E_BUSY (derived: R840, R841). -/
def Obligations.HoldLasts : Prop :=
  ∀ s t : State, s.isHeld = true → s.txProto ≠ 0 → s.agenda.head? ≠ some .txComplete →
    s.agenda.head? ≠ some .hardReset → step s = .next t →
    t.seq = s.seq ∧ t.txProto = s.txProto ∧
    ∀ w, s.agenda.head? = some (.hostWrite .w32 0 w) → t.err = some .busy ∧ t.errCmd = w

/-- A frame is delivered when reception is armed and the frame fits (derived: R851).  That a delivery which is not
enabled, the empty frame included, is a step that changes nothing of the block is the model's choice (log 6), where U4
and U5 say 'refuse'. -/
def Obligations.DeliverFrame : Prop :=
  ∀ (s : State) (frame : List Byte) (rest : List Turn), s.Ok → s.agenda = .deliver frame :: rest →
    ((s.rxArmed = true ∧ 1 ≤ frame.length ∧ frame.length ≤ s.cfg.rxBufSize) →
      ∃ t, step s = .next t ∧
        t = { s with agenda := rest, mem := t.mem, rxLen := BitVec.ofNat 16 frame.length, rxArmed := false } ∧
        (∀ k, k < frame.length → t.rx8 k = frame.getD k 0) ∧
        ∀ a, a < 0x4000 ∨ 0x4000 + frame.length ≤ a → Memory.read t.mem a = Memory.read s.mem a) ∧
    (¬ (s.rxArmed = true ∧ 1 ≤ frame.length ∧ frame.length ≤ s.cfg.rxBufSize) →
      step s = .next { s with agenda := rest })

/-- Completion is enabled when a frame is in flight, and then clears TX_PROTO and nothing else of the block (derived:
R852; `wire` and `freeCount` are the model's record of the wire, log 2).  That a completion without a frame in flight is
a step that changes nothing is the model's choice (log 6). -/
def Obligations.TransportCompletes : Prop :=
  ∀ (s : State) (rest : List Turn), s.agenda = .txComplete :: rest →
    (s.txProto = 0 → step s = .next { s with agenda := rest }) ∧
    (s.txProto ≠ 0 → ∃ t, step s = .next t ∧
      t = { s with agenda := rest, txProto := 0, wire := t.wire, freeCount := t.freeCount })

/-- In a safe run the wire gets the bytes the frame's own event recorded (derived: R230, R231; the record of the wire
is the model's own, log 2). -/
def Obligations.WireCarriesEventBytes : Prop :=
  ∀ (s : State) (rest : List Turn), s.agenda = .txComplete :: rest → s.txProto ≠ 0 → s.Safe → s.FlightIntact →
    ∃ t f, step s = .next t ∧ lastSent s.trace = some f ∧ t.wire = s.wire ++ [f]

/-! ## The network interface (41_netif.md) -/

/-- R400 INIT. -/
def Obligations.InitZeroes : Prop :=
  ∀ s : State, RejectedAsReported s .init ∧
    (s.seq = .idle →
      exec .init s = .next { s with
        fTxOverwrite := s.txProto != 0
        conns := Vector.replicate 16 Conn.zero
        svcs := Vector.replicate 16 Svc.zero
        mem := []
        rxLen := 0, txProto := 0, txLen := 0, moreCb := false
        mac := s.cfg.mac
        cbKind := .none, cbConn := 0, cbSvc := 0, cbAddr := 0, cbLen := 0, cbRetval := 0
        errCmd := 0, err := none
        rxArmed := true
        trace := s.trace ++ [.rxRearm]
        result := 0, done := true })

/-- POLL's branches that dispatch nothing (derived: R401). -/
def Obligations.PollWithoutDispatch : Prop :=
  ∀ s : State, s.seq = .idle →
    (s.moreCb = true → s.txProto ≠ 0 → exec .poll s = .next { s with result := 1, done := true }) ∧
    (s.moreCb = true → s.txProto = 0 →
      exec .poll s = .next { s with
        cbKind := .more, cbConn := 0, cbSvc := 0, cbAddr := 0, cbLen := 0, seq := .cbWait .more }) ∧
    (s.moreCb = false → s.rxLen = 0 → exec .poll s = .next { s with result := 0, done := true })

/-- Every dropped packet, on every path that can receive it, leaves exactly its log event; POLL re-arms, a direct
command does not; the log codes have their numbers (derived: R401, R406, R407, R410, R450, R451, R550, R551, R600,
R601, R606, R811, R860). -/
def Obligations.DroppedPackets : Prop :=
  (LogCode.code .ethType = 1 ∧ LogCode.code .arpType = 2 ∧ LogCode.code .icmp = 3 ∧ LogCode.code .ipProto = 4 ∧
    LogCode.code .txEtype0 = 5) ∧
  ∀ (s : State) (events : List Event), s.seq = .idle →
    (s.moreCb = false → s.rxLen ≠ 0 → s.dropEth s.rxLen.toNat = some events →
      exec .poll s = .next { s with
        rxLen := 0, rxArmed := true, trace := s.trace ++ events ++ [.rxRearm], result := 3, done := true }) ∧
    ∀ n : Half,
      (n.toNat ≤ s.cfg.rxBufSize → s.dropEth n.toNat = some events →
        exec (.ethRx n) s = .next { s with trace := s.trace ++ events, result := 0, done := true }) ∧
      (14 + n.toNat ≤ s.cfg.rxBufSize → s.dropArp n.toNat = some events →
        exec (.arpRx n) s = .next { s with trace := s.trace ++ events, result := 0, done := true }) ∧
      (14 + n.toNat ≤ s.cfg.rxBufSize → s.dropIp n.toNat = some events →
        exec (.ipRx n) s = .next { s with trace := s.trace ++ events, result := 0, done := true }) ∧
      (34 + n.toNat ≤ s.cfg.rxBufSize → s.dropTcp n.toNat = some events →
        exec (.tcpRx n) s = .next { s with trace := s.trace ++ events, result := 0, done := true })

/-- R403 ETH_ACQ. -/
def Obligations.EthAcqBuilds : Prop :=
  ∀ (s : State) (et : Half), s.Ok → s.isHeld = false →
    ∃ t, exec (.ethAcq et) s = .next t ∧
      t = { s with
        mem := t.mem, result := 0x800E, done := true
        fTxOverwrite := s.fTxOverwrite || (et != 0 && s.txProto != 0) } ∧
      (et ≠ 0 → EthHeader s t et) ∧
      ∀ a, et = 0 ∨ a < 0x8000 ∨ 0x800E ≤ a → Memory.read t.mem a = Memory.read s.mem a

/-- R404 ETH_TX: the hand-over, the two errors checked before any effect, and the internal form, which logs a zero
EtherType and hands nothing over. -/
def Obligations.EthTxHandsOver : Prop :=
  ∀ (s : State) (n : Half),
    let handed : State := { s with
      fTxOverwrite := s.fTxOverwrite || s.txProto != 0
      txProto := s.tx16 12
      txLen := 14 + n
      trace := s.trace ++ [.frameSent (Memory.bytes s.mem 0x8000 (14 + n.toNat)) (14 + n.toNat)] }
    (s.tx16 12 = 0 → s.ethTransmit n.toNat = { s with trace := s.trace ++ [.log .txEtype0 0] }) ∧
    (s.tx16 12 ≠ 0 → s.ethTransmit n.toNat = handed) ∧
    (s.isHeld = false →
      (s.cfg.txBufSize < 14 + n.toNat →
        exec (.ethTx n) s = .next { s with err := some .range, errCmd := s.cmdLast }) ∧
      (14 + n.toNat ≤ s.cfg.txBufSize → s.tx16 12 = 0 →
        exec (.ethTx n) s = .next { s with err := some .etype0, errCmd := s.cmdLast }) ∧
      (14 + n.toNat ≤ s.cfg.txBufSize → s.tx16 12 ≠ 0 →
        exec (.ethTx n) s = .next { handed with result := 0, done := true }))

/-- R405 SET_MORE, with its reserved immediate bits. -/
def Obligations.SetMoreWrites : Prop :=
  ∀ s : State, s.isHeld = false →
    (∀ b : Bool, exec (.setMore b) s = .next { s with moreCb := b, result := 0, done := true }) ∧
    ∀ w : Word, opcField w = 0x05 → w.toNat / 2 ^ 17 ≠ 0 →
      s.issue w = .next { s with cmdLast := w, err := some .rsvBits, errCmd := w }

/-! ## ARP (42_arp.md) -/

/-- ARP_RX answers a well-formed REQUEST for LOCAL_IP with exactly one REPLY, without waiting for the TX buffer
(R452). -/
def Obligations.ArpRequestAnswered : Prop :=
  ∀ (s : State) (n : Half), s.Ok → s.seq = .idle → 14 + n.toNat ≤ s.cfg.rxBufSize → s.ArpRequestForUs n.toNat →
    ∃ t, exec (.arpRx n) s = .next t ∧ ArpReplySent s t [] ∧
      t = { s with
        mem := t.mem, fTxOverwrite := s.fTxOverwrite || s.txProto != 0, txProto := 0x0806, txLen := 42
        trace := t.trace, result := 1, done := true }

/-- POLL and ETH_RX dispatch an ARP frame by its EtherType to the same reply; POLL then re-arms (derived: R401, R406,
R407, R410, R454). -/
def Obligations.ArpFrameDispatched : Prop :=
  ∀ s : State, s.Ok → s.seq = .idle → s.rx16 12 = 0x0806 →
    (s.moreCb = false → s.ArpRequestForUs (s.rxLen.toNat - 14) →
      ∃ t, exec .poll s = .next t ∧ ArpReplySent s t [.rxRearm] ∧
        t = { s with
          mem := t.mem, fTxOverwrite := s.fTxOverwrite || s.txProto != 0, txProto := 0x0806, txLen := 42
          trace := t.trace, rxLen := 0, rxArmed := true, result := 3, done := true }) ∧
    (∀ n : Half, n.toNat ≤ s.cfg.rxBufSize → s.ArpRequestForUs (n.toNat - 14) →
      ∃ t, exec (.ethRx n) s = .next t ∧ ArpReplySent s t [] ∧
        t = { s with
          mem := t.mem, fTxOverwrite := s.fTxOverwrite || s.txProto != 0, txProto := 0x0806, txLen := 42
          trace := t.trace, result := 0, done := true })

/-! ## Checksum (43_checksum.md) -/

/-- CSUM gives the one's-complement sum of the bytes: the exact sum modulo 2^32, folded (R500, R501, R502). -/
def Obligations.CsumResult : Prop :=
  ∀ (s : State) (n : Half), s.isHeld = false →
    (s.inRange (s.arg1.toNat % 65536) n.toNat = false →
      exec (.csum n) s = .next { s with err := some .range, errCmd := s.cmdLast }) ∧
    (s.inRange (s.arg1.toNat % 65536) n.toNat = true →
      exec (.csum n) s = .next { s with
        result := BitVec.ofNat 32 (onesFold
          ((s.arg0.toNat + wordSum (Memory.bytes s.mem (s.arg1.toNat % 65536) n.toNat)) % 2 ^ 32))
        done := true })

/-- A stored complement makes the bytes sum to 0xFFFF, when the checksum field is at an even offset and the bytes fit
a buffer (derived: R500, R504; R505 is the spec's own inference from them). -/
def Obligations.ChecksumRoundTrip : Prop :=
  ∀ pre post : List Byte, pre.length % 2 = 0 → pre.length + 2 + post.length ≤ 0x4000 →
    foldCarries (checksumAcc 0
      (pre ++ be16 (~~~ foldCarries (checksumAcc 0 (pre ++ [0, 0] ++ post))) ++ post)) = 0xFFFF

/-! ## IPv4 (44_ipv4.md) -/

/-- R555, R556 IP_ACQ, with its reserved immediate bits. -/
def Obligations.IpAcqBuilds : Prop :=
  ∀ s : State, s.isHeld = false →
    (s.Ok → ∀ p : Byte, ∃ t, exec (.ipAcq p) s = .next t ∧
      t = { s with
        mem := t.mem, result := 0x8022, done := true, fTxOverwrite := s.fTxOverwrite || s.txProto != 0 } ∧
      EthHeader s t 0x0800 ∧ IpHeaderFields s t s.arg0 p ∧ t.tx16 16 = 0 ∧ t.tx16 24 = 0 ∧
      ∀ a, a < 0x8000 ∨ 0x8022 ≤ a → Memory.read t.mem a = Memory.read s.mem a) ∧
    ∀ w : Word, opcField w = 0x21 → w.toNat / 2 ^ 24 ≠ 0 →
      s.issue w = .next { s with cmdLast := w, err := some .rsvBits, errCmd := w }

/-- R560, R561 IP_TX: total length and checksum are stored and the frame is handed over. -/
def Obligations.IpTxSeals : Prop :=
  ∀ (s : State) (n : Half), s.Ok → s.isHeld = false →
    (s.cfg.txBufSize < 34 + n.toNat →
      exec (.ipTx n) s = .next { s with err := some .range, errCmd := s.cmdLast }) ∧
    (34 + n.toNat ≤ s.cfg.txBufSize → s.tx16 12 = 0 →
      exec (.ipTx n) s = .next { s with err := some .etype0, errCmd := s.cmdLast }) ∧
    (34 + n.toNat ≤ s.cfg.txBufSize → s.tx16 12 ≠ 0 →
      ∃ t, exec (.ipTx n) s = .next t ∧
        t = { s with
          mem := t.mem, fTxOverwrite := s.fTxOverwrite || s.txProto != 0, txProto := s.tx16 12, txLen := 34 + n
          trace := s.trace ++ [.frameSent (Memory.bytes t.mem 0x8000 (34 + n.toNat)) (34 + n.toNat)]
          result := 0, done := true } ∧
        IpSealed t (20 + n.toNat) ∧
        ∀ a, a ∉ [0x8010, 0x8011, 0x8018, 0x8019] → Memory.read t.mem a = Memory.read s.mem a)

/-! ## TCP commands (45_tcp.md section 4) -/

/-- R630, R605 TCP_FIND: the lowest matching slot, or 0xFFFFFFFF. -/
def Obligations.TcpFindResult : Prop :=
  ∀ s : State, s.isHeld = false →
    ((∀ i, ¬ s.Matched i) → exec .tcpFind s = .next { s with result := 0xFFFFFFFF, done := true }) ∧
    ∀ i, Least s.Matched i → exec .tcpFind s = .next { s with result := BitVec.ofNat 32 i.val, done := true }

/-- R650 TCP_ACQ: a default ACK header is built, or a pending one reused. -/
def Obligations.TcpAcqBuildsOrReuses : Prop :=
  ∀ (s : State) (i : Slot), RejectedAsReported s (.tcpAcq i) ∧
    (s.Ok → reportedError s (.tcpAcq i) = none →
      ((s.conn i).replyPending = true →
        exec (.tcpAcq i) s = .next { s with result := 0x8036, done := true }) ∧
      ((s.conn i).replyPending = false →
        ∃ t, exec (.tcpAcq i) s = .next t ∧
          t = { s with
            mem := t.mem, result := 0x8036, done := true, fTxOverwrite := s.fTxOverwrite || s.txProto != 0
            conns := s.conns.set i { s.conn i with replyPending := true } } ∧
          EthHeader s t 0x0800 ∧ IpHeaderFields s t (s.conn i).remoteIp 6 ∧
          TcpHeaderFields t (s.conn i).localPort (s.conn i).remotePort (s.conn i).localSeq (s.conn i).remoteSeq 0x10
            s.cfg.tcpWindow ∧
          t.tx16 16 = 0 ∧ t.tx16 24 = 0 ∧ t.tx16 50 = 0 ∧
          ∀ a, a < 0x8000 ∨ 0x8036 ≤ a → Memory.read t.mem a = Memory.read s.mem a))

/-- R660 TCP_TX: PSH when there is data, both checksums, the hand-over, LOCAL_SEQ advanced, the pending reply
cleared; its errors in their order. -/
def Obligations.TcpTxSends : Prop :=
  ∀ (s : State) (i : Slot) (n : Half), RejectedAsReported s (.tcpTx i n) ∧
    (s.Ok → reportedError s (.tcpTx i n) = none →
      ∃ t, exec (.tcpTx i n) s = .next t ∧
        t = { s with
          mem := t.mem, fTxOverwrite := s.fTxOverwrite || s.txProto != 0, txProto := s.tx16 12, txLen := 54 + n
          trace := s.trace ++ [.frameSent (Memory.bytes t.mem 0x8000 (54 + n.toNat)) (54 + n.toNat)]
          conns := s.conns.set i { s.conn i with
            localSeq := (s.conn i).localSeq + BitVec.ofNat 32 n.toNat, replyPending := false }
          result := 0, done := true } ∧
        t.tx8 47 = s.tx8 47 ||| (if n = 0 then 0 else 0x08) ∧
        IpSealed t (40 + n.toNat) ∧ TcpSealed t (20 + n.toNat) ∧
        ∀ a, a ∉ sealedBytes → Memory.read t.mem a = Memory.read s.mem a)

/-- R670 TCP_WAIT: completes at once when TX_PROTO is 0, otherwise holds, during a callback as CB_HOLD, and completes
when the hold ends; a free slot is allowed. -/
def Obligations.TcpWaitWaits : Prop :=
  ∀ (s : State) (i : Slot), RejectedAsReported s (.tcpWait i) ∧
    (s.isHeld = false → i.val < s.cfg.nConn →
      (s.txProto = 0 → exec (.tcpWait i) s = .next { s with result := 0, done := true }) ∧
      (s.txProto ≠ 0 → s.seq = .idle →
        exec (.tcpWait i) s = .next { s with seq := .hold (.command (.tcpWait i)) }) ∧
      (∀ k, s.txProto ≠ 0 → s.seq = .cbWait k →
        exec (.tcpWait i) s = .next { s with seq := .cbHold k (.tcpWait i) })) ∧
    (s.txProto = 0 → s.seq = .hold (.command (.tcpWait i)) →
      s.turn .resume = .next { s with seq := .idle, result := 0, done := true })

/-- R680 TCP_CLOSE: ACK+FIN and FIN_WAIT_1, at once or when the hold ends; a pending reply is reused, and one whose
EtherType the host zeroed is finished in the buffer, logged and not sent (`ReplySent`). -/
def Obligations.TcpCloseSendsFin : Prop :=
  ∀ (s : State) (i : Slot), RejectedAsReported s (.tcpClose i) ∧
    (reportedError s (.tcpClose i) = none → s.txProto ≠ 0 →
      (s.seq = .idle → exec (.tcpClose i) s = .next { s with seq := .hold (.command (.tcpClose i)) }) ∧
      (∀ k, s.seq = .cbWait k → exec (.tcpClose i) s = .next { s with seq := .cbHold k (.tcpClose i) })) ∧
    (s.Ok → s.txProto = 0 →
      let closes (o : Host.Outcome State Fault Refusal) (q : Sequencer) : Prop :=
        ∃ t, o = .next t ∧ ReplySent s t i 0x01 [] ∧ SendFrameRule s t i ∧
          t.conn i = { s.conn i with state := .finWait1, replyPending := false } ∧
          t.seq = q ∧ t.result = 0 ∧ t.done = true ∧ t.rxLen = s.rxLen ∧ t.rxArmed = s.rxArmed
      (reportedError s (.tcpClose i) = none → closes (exec (.tcpClose i) s) s.seq) ∧
      (s.seq = .hold (.command (.tcpClose i)) → closes (s.turn .resume) .idle) ∧
      (∀ k, s.seq = .cbHold k (.tcpClose i) → closes (s.turn .resume) (.cbWait k)))

/-! ## Accept (45_tcp.md section 2) -/

/-- A SYN that matches no connection claims the lowest free slot and raises ACCEPT for the lowest service on its port
(derived: R605, R610, R611, R830). -/
def Obligations.AcceptRaisesCallback : Prop :=
  ∀ (s : State) (cmd : Instr) (tail : Tail) (len : Nat) (f j : Slot), s.TcpArrives cmd tail len → s.rxSyn = true →
    (∀ i, ¬ s.Matched i) → Least s.FreeAt f → Least s.Serves j →
    ∃ g, exec cmd s = .next { s with
      cbKind := .accept, cbConn := f, cbSvc := j, cbAddr := 0, cbLen := 0, seq := .cbWait (.accept tail g f)
      conns := s.conns.set f {
        remoteIp := s.rx32 26, localPort := s.rx16 36, remotePort := s.rx16 34, localSeq := s.cfg.iss
        remoteSeq := s.rx32 38 + 1, state := .synReceived, replyPending := false, svc := j
        priv := (s.svc j).priv } }

/-- After the ACCEPT callback, whatever it returns, or when the hold that follows it is resumed, the SYN+ACK of the
bound connection is sent, or logged if the host zeroed the EtherType of a pending header, and the receive command
completes (derived: R404, R611, R612, R650, R831, R840). -/
def Obligations.SynAckSent : Prop :=
  ∀ (s : State) (tail : Tail) (g : Segment) (f : Slot), s.Ok → s.txProto = 0 →
    let sent (u t : State) : Prop :=
      ReplySent u t f 0x02 tail.events ∧ SendFrameRule u t f ∧
      t.conn f = { s.conn f with replyPending := false } ∧ t.seq = .idle ∧ EndedAs u t tail
    (∀ v : Half, s.seq = .cbWait (.accept tail g f) →
      ∃ t, exec (.cbRet v) s = .next t ∧ sent { s with cbRetval := v, cbKind := .none } t) ∧
    (s.seq = .hold (.synAck tail g f) → ∃ t, s.turn .resume = .next t ∧ sent s t)

/-- A SYN that finds no free slot, or no service on its port, is answered with RST and binds no connection; while the
TX buffer is busy the answer holds, and is sent when the hold is resumed (derived: R610, R611, R613, R840). -/
def Obligations.RefusedSynGetsRst : Prop :=
  ∀ s : State, s.Ok →
    (∀ (cmd : Instr) (tail : Tail) (len : Nat) (conns : Vector Conn 16), s.TcpArrives cmd tail len →
      s.rxSyn = true → (∀ i, ¬ s.Matched i) →
      ((∀ i, ¬ s.FreeAt i) ∧ conns = s.conns ∨
        ∃ f, Least s.FreeAt f ∧ (∀ j, ¬ s.Serves j) ∧
          conns = s.conns.set f { s.conn f with
            remoteIp := 0, localPort := s.rx16 36, remotePort := s.rx16 34, localSeq := s.cfg.iss
            remoteSeq := s.rx32 38 + 1, state := .closed, replyPending := false }) →
      (s.txProto = 0 →
        ∃ t, exec cmd s = .next t ∧
          SegmentSent s t (s.rx32 26) (s.rx16 36) (s.rx16 34) 0 (s.rx32 38 + 1) 0x14 0 tail.events ∧
          t = { s.ends tail with
            mem := t.mem, txProto := 0x0800, txLen := 54, conns := conns, trace := t.trace }) ∧
      (s.txProto ≠ 0 →
        ∃ g, exec cmd s = .next { s with conns := conns, seq := .hold (.rst tail g) } ∧
          g.srcIp = s.rx32 26 ∧ g.dport = s.rx16 36 ∧ g.sport = s.rx16 34 ∧ g.sseq = s.rx32 38)) ∧
    ∀ (tail : Tail) (g : Segment), s.txProto = 0 → s.seq = .hold (.rst tail g) →
      ∃ t, s.turn .resume = .next t ∧ SegmentSent s t g.srcIp g.dport g.sport 0 (g.sseq + 1) 0x14 0 tail.events ∧
        t = { s.ends tail with mem := t.mem, txProto := 0x0800, txLen := 54, seq := .idle, trace := t.trace }

/-! ## The states of a matched connection (45_tcp.md section 3) -/

/-- R615 SYN_RECEIVED. -/
def Obligations.AckEstablishes : Prop :=
  ∀ (s : State) (cmd : Instr) (tail : Tail) (len : Nat) (i : Slot), s.TcpArrives cmd tail len → Least s.Matched i →
    (s.conn i).state = .synReceived →
    exec cmd s = .next (State.ends { s with
      conns := if s.rxAck then s.conns.set i { s.conn i with localSeq := s.rx32 42, state := .established }
        else s.conns } tail)

/-- ESTABLISHED up to the manager's reply: a bare ACK, a segment with data (PROCESS callback), a FIN without data,
whose reply is sent, or logged if the host zeroed the EtherType of a pending header (derived: R404, R603, R616, R650,
R830, R840). -/
def Obligations.EstablishedReceives : Prop :=
  ∀ (s : State) (cmd : Instr) (tail : Tail) (len : Nat) (i : Slot), s.TcpArrives cmd tail len → Least s.Matched i →
    (s.conn i).state = .established →
    (len ≤ s.rxHeaderLen → s.rxFin = false →
      exec cmd s = .next (State.ends { s with conns := s.conns.set i (s.acked i) } tail)) ∧
    (s.rxHeaderLen < len →
      ∃ g, exec cmd s = .next { s with
        conns := s.conns.set i { s.acked i with
          remoteSeq := (s.conn i).remoteSeq + BitVec.ofNat 32 (len - s.rxHeaderLen) }
        cbKind := .process, cbConn := i, cbSvc := (s.conn i).svc
        cbAddr := BitVec.ofNat 16 (0x4022 + s.rxHeaderLen), cbLen := BitVec.ofNat 16 (len - s.rxHeaderLen)
        seq := .cbWait (.process tail g i) } ∧ g.flags.getLsbD 0 = s.rxFin) ∧
    (len ≤ s.rxHeaderLen → s.rxFin = true →
      let u : State := { s with conns := s.conns.set i { s.acked i with remoteSeq := (s.conn i).remoteSeq + 1 } }
      (s.txProto ≠ 0 →
        ∃ g, exec cmd s = .next { u with seq := .hold (.estReply tail g i) } ∧ g.flags.getLsbD 0 = true) ∧
      (s.txProto = 0 → s.Ok →
        ∃ t g, exec cmd s = .next t ∧ ReplyThenHold u t i 0x01 tail (.estDone tail g i) ∧ SendFrameRule u t i ∧
          t.conn i = { u.conn i with state := .closeWait, replyPending := false }))

/-- The manager's reply in ESTABLISHED, when its hold is resumed or after the PROCESS callback: ACK, or ACK+FIN with
CLOSE_WAIT when the segment had FIN, a reply the service left pending being reused; then a second hold, which passes at
once if the reply was logged and not sent (derived: R404, R616, R650, R831, R840). -/
def Obligations.EstablishedReplies : Prop :=
  ∀ (s : State) (tail : Tail) (g : Segment) (i : Slot), s.Ok → s.txProto = 0 →
    let fin : Bool := g.flags.getLsbD 0
    let sent (u t : State) : Prop :=
      ReplyThenHold u t i (if fin then 0x01 else 0x00) tail (.estDone tail g i) ∧ SendFrameRule u t i ∧
      t.conn i = { s.conn i with state := if fin then .closeWait else (s.conn i).state, replyPending := false }
    (s.seq = .hold (.estReply tail g i) → ∃ t, s.turn .resume = .next t ∧ sent s t) ∧
    (∀ v : Half, s.seq = .cbWait (.process tail g i) →
      ∃ t, exec (.cbRet v) s = .next t ∧ sent { s with cbRetval := v, cbKind := .none, done := true } t)

/-- FIN_WAIT_1: an ACK, a segment with neither flag, and a FIN, whose ACK is sent at once or when the hold is resumed
and is followed by a second hold; if a pending reply was logged and not sent, that hold passes at once and STATE is
CLOSING in the same step (derived: R404, R617, R650, R840). -/
def Obligations.FinWait1Receives : Prop :=
  ∀ (s : State) (tail : Tail) (i : Slot),
    let replies (o : Host.Outcome State Fault Refusal) (u : State) : Prop :=
      ∃ t g, o = .next t ∧ ReplyThenHold u t i 0x00 tail (.finDone tail g i) ∧ SendFrameRule u t i ∧
        t.conn i = { u.conn i with
          replyPending := false, state := if u.CanReply i then (u.conn i).state else .closing }
    (∀ (cmd : Instr) (len : Nat), s.TcpArrives cmd tail len → Least s.Matched i → (s.conn i).state = .finWait1 →
      (s.rxFin = false → s.rxAck = true →
        exec cmd s = .next (State.ends { s with conns := s.conns.set i { s.acked i with state := .closing } } tail)) ∧
      (s.rxFin = false → s.rxAck = false → exec cmd s = .next (s.ends tail)) ∧
      (s.rxFin = true →
        let u : State := { s with conns := s.conns.set i { s.acked i with
          remoteSeq := (s.conn i).remoteSeq +
            if s.rxHeaderLen < len then BitVec.ofNat 32 (len - s.rxHeaderLen) else 1 } }
        (s.txProto ≠ 0 → ∃ g, exec cmd s = .next { u with seq := .hold (.finReply tail g i) }) ∧
        (s.txProto = 0 → s.Ok → replies (exec cmd s) u))) ∧
    (∀ g : Segment, s.Ok → s.txProto = 0 → s.seq = .hold (.finReply tail g i) → replies (s.turn .resume) s)

/-- CLOSE_WAIT and CLOSING: an ACK without data raises the CLOSED callback with the slot still bound, anything else
has no effect; the release itself is in `CallbackReturns`.  In CLOSED, which no reachable bound slot is in, a segment
has no effect (derived: R618, R619, R620). -/
def Obligations.PassiveCloseReceives : Prop :=
  ∀ (s : State) (cmd : Instr) (tail : Tail) (len : Nat) (i : Slot), s.TcpArrives cmd tail len → Least s.Matched i →
    ((s.conn i).state = .closing ∨ (s.conn i).state = .closeWait →
      ((s.rxAck = true ∧ len ≤ s.rxHeaderLen) →
        ∃ g, exec cmd s = .next { s with
          cbKind := .closed, cbConn := i, cbSvc := (s.conn i).svc, cbAddr := 0, cbLen := 0
          seq := .cbWait (.closed tail g i) }) ∧
      (¬ (s.rxAck = true ∧ len ≤ s.rxHeaderLen) → exec cmd s = .next (s.ends tail))) ∧
    ((s.conn i).state = .closed → exec cmd s = .next (s.ends tail))

/-! ## Services (46_host_control.md) -/

/-- R700 SVC_REG. -/
def Obligations.SvcRegRegisters : Prop :=
  ∀ (s : State) (j : Slot) (port : Half), RejectedAsReported s (.svcReg j port) ∧
    (s.seq = .idle → j.val < s.cfg.nServ →
      exec (.svcReg j port) s = .next { s with
        svcs := s.svcs.set j { port := port, valid := true, priv := s.arg0 }, result := 0, done := true })

/-! ## The host's accesses (20_memory.md section 3, 10_state.md) -/

/-- A host read changes nothing of the block; its answer is a bus error exactly for a misaligned access or a narrow one
to the registers, and a window is read little-endian, every byte beyond the buffers as 0, inside a wider access too
(derived: R201, R210, R211, R212; the last words are log 17, that the answer is kept in `State.bus` is log 4). -/
def Obligations.HostReads : Prop :=
  ∀ (s : State) (w : Width) (a : BitVec 16) (rest : List Turn), s.agenda = .hostRead w a :: rest →
    let byte (k : Nat) : Nat :=
      if (0x4000 ≤ a.toNat + k ∧ a.toNat + k < 0x4000 + s.cfg.rxBufSize) ∨
          (0x8000 ≤ a.toNat + k ∧ a.toNat + k < 0x8000 + s.cfg.txBufSize) then
        (Memory.read s.mem (a.toNat + k)).toNat
      else 0
    ∃ e d, step s = .next { s with agenda := rest, bus := { error := e, data := d } } ∧
      (e = true ↔ a.toNat % w.bytes ≠ 0 ∨ (a.toNat < 0x4000 ∧ w ≠ .w32)) ∧
      (e = true → d = 0) ∧
      (e = false → 0x4000 ≤ a.toNat →
        (w = .w8 → d.toNat = byte 0) ∧
        (w = .w16 → d.toNat = byte 0 + 256 * byte 1) ∧
        (w = .w32 → d.toNat = byte 0 + 256 * byte 1 + 65536 * byte 2 + 16777216 * byte 3)) ∧
      (e = false → a.toNat < 0x4000 → d = s.readRegister a.toNat)

/-- A host write to the TX window stores its lanes little-endian, those beyond the buffer lost, and flags an overwrite
while a frame is in flight; a write to the RX window or beyond the buffers is ignored; a misaligned write, or a narrow
one to the registers, is a bus error without effect (derived: R201, R210, R211, R212, R231).  That the lanes inside the
buffer are written when an access straddles its end, and that a write beyond it flags nothing, is the model's reading
(log 5), and so is that a narrow write carries its data in the low bits (log 17). -/
def Obligations.HostWritesWindow : Prop :=
  ∀ (s : State) (w : Width) (a : BitVec 16) (v : Word) (rest : List Turn), s.Ok →
    s.agenda = .hostWrite w a v :: rest →
    (a.toNat % w.bytes ≠ 0 ∨ (a.toNat < 0x4000 ∧ w ≠ .w32) →
      step s = .next { s with agenda := rest, bus := { error := true, data := 0 } }) ∧
    (a.toNat % w.bytes = 0 →
      (0x8000 ≤ a.toNat → a.toNat < 0x8000 + s.cfg.txBufSize →
        ∃ t, step s = .next t ∧
          t = { s with
            agenda := rest, bus := { error := false, data := 0 }, mem := t.mem
            fTxOverwrite := s.fTxOverwrite || s.txProto != 0 } ∧
          ∀ x, Memory.read t.mem x =
            if a.toNat ≤ x ∧ x < a.toNat + w.bytes ∧ x < 0x8000 + s.cfg.txBufSize then
              v.extractLsb' (8 * (x - a.toNat)) 8
            else Memory.read s.mem x) ∧
      ((0x4000 ≤ a.toNat ∧ a.toNat < 0x8000) ∨ 0x8000 + s.cfg.txBufSize ≤ a.toNat →
        step s = .next { s with agenda := rest, bus := { error := false, data := 0 } }))

/-- The writable registers other than CMD, and that every other register ignores a write (derived: R105, R110, R111,
R130, R201, R212). -/
def Obligations.HostWritesRegister : Prop :=
  ∀ (s : State) (a : BitVec 16) (v : Word) (rest : List Turn), s.cfg.wf → s.agenda = .hostWrite .w32 a v :: rest →
    let u : State := { s with agenda := rest, bus := { error := false, data := 0 } }
    (a = 0x004 → step s = .next { u with arg0 := v }) ∧
    (a = 0x008 → step s = .next { u with arg1 := v }) ∧
    (a = 0x010 → step s = .next { u with
      done := s.done && !v.getLsbD 4, err := if v.getLsbD 5 then none else s.err }) ∧
    (a = 0x014 → step s = .next { u with irqEn := BitVec.ofNat 4 v.toNat }) ∧
    (∀ i : Slot, i.val < s.cfg.nConn → a.toNat = 0x114 + 0x20 * i.val →
      step s = .next { u with conns := s.conns.set i { s.conn i with priv := v } }) ∧
    (a.toNat < 0x4000 → a.toNat % 4 = 0 → a ∉ [0x000, 0x004, 0x008, 0x010, 0x014] →
      (∀ i : Slot, i.val < s.cfg.nConn → a.toNat ≠ 0x114 + 0x20 * i.val) → step s = .next u)

/-- What every register below the tables reads, field by field, with the numbers of SEQ, ERR and KIND; every address
the register table does not list reads 0 (derived: R102, R104 to R106, R110 to R116, R118 to R120, R122, R123, R802 and
the register table of 10_state.md section 2).  The words of the tables are in `TableBlocks`. -/
def Obligations.RegisterFields : Prop :=
  ∀ s : State, s.cfg.wf →
    s.readRegister 0x000 = s.cmdLast ∧ s.readRegister 0x004 = s.arg0 ∧ s.readRegister 0x008 = s.arg1 ∧
    s.readRegister 0x00C = s.result ∧
    (s.readRegister 0x010).toNat =
      (match s.seq with
        | .idle => 0
        | .hold _ => 1
        | .cbWait _ => 2
        | .cbHold _ _ => 3) +
      16 * s.done.toNat + 32 * s.err.isSome.toNat +
      256 * (match s.err with
        | none => 0
        | some .illegalOpc => 1
        | some .rsvBits => 2
        | some .busy => 3
        | some .reentrant => 4
        | some .cidx => 5
        | some .connFree => 6
        | some .range => 7
        | some .noReply => 8
        | some .etype0 => 9
        | some .notInCb => 10) +
      65536 * s.fTxOverwrite.toNat ∧
    (s.readRegister 0x014).toNat = s.irqEn.toNat ∧
    (s.readRegister 0x018).toNat =
      (match s.cbKind with
        | .none => 0
        | .accept => 1
        | .process => 2
        | .closed => 3
        | .more => 4
        | .udpRx => 5) +
      256 * s.cbConn.val + 4096 * s.cbSvc.val ∧
    (s.readRegister 0x01C).toNat = s.cbAddr.toNat ∧ (s.readRegister 0x020).toNat = s.cbLen.toNat ∧
    (s.readRegister 0x024).toNat = s.cbRetval.toNat ∧ s.readRegister 0x028 = s.errCmd ∧
    (s.readRegister 0x030).toNat = s.mac.toNat / 2 ^ 32 ∧ (s.readRegister 0x034).toNat = s.mac.toNat % 2 ^ 32 ∧
    s.readRegister 0x038 = s.cfg.localIp ∧
    (s.readRegister 0x03C).toNat = s.rxLen.toNat + 65536 * s.rxArmed.toNat ∧
    (s.readRegister 0x040).toNat = s.txProto.toNat + 65536 * s.moreCb.toNat ∧
    (s.readRegister 0x044).toNat = s.txLen.toNat ∧
    (s.readRegister 0x048).toNat = s.cfg.nConn + 256 * s.cfg.nServ ∧
    (s.readRegister 0x04C).toNat = s.cfg.rxBufSize + 65536 * s.cfg.txBufSize ∧
    ∀ a, a % 4 = 0 → a < 0x4000 →
      a = 0x02C ∨ (0x050 ≤ a ∧ a < 0x100) ∨ (0x300 ≤ a ∧ a < 0x400) ∨ 0x500 ≤ a → s.readRegister a = 0

/-- The connection and service blocks as the host reads them, with the numbers of STATE; their unused words and the
blocks beyond the tables read 0 (derived: R130, R131, R140). -/
def Obligations.TableBlocks : Prop :=
  ∀ (s : State) (i : Slot), s.cfg.wf →
    (i.val < s.cfg.nConn →
      s.readRegister (0x100 + 0x20 * i.val) = (s.conn i).remoteIp ∧
      (s.readRegister (0x104 + 0x20 * i.val)).toNat =
        65536 * (s.conn i).localPort.toNat + (s.conn i).remotePort.toNat ∧
      s.readRegister (0x108 + 0x20 * i.val) = (s.conn i).localSeq ∧
      s.readRegister (0x10C + 0x20 * i.val) = (s.conn i).remoteSeq ∧
      (s.readRegister (0x110 + 0x20 * i.val)).toNat =
        (match (s.conn i).state with
          | .closed => 0
          | .synReceived => 1
          | .established => 2
          | .finWait1 => 3
          | .closing => 4
          | .closeWait => 5) +
        16 * (s.conn i).replyPending.toNat + 256 * (s.conn i).svc.val ∧
      s.readRegister (0x114 + 0x20 * i.val) = (s.conn i).priv ∧
      s.readRegister (0x118 + 0x20 * i.val) = 0 ∧ s.readRegister (0x11C + 0x20 * i.val) = 0) ∧
    (i.val < s.cfg.nServ →
      (s.readRegister (0x400 + 0x10 * i.val)).toNat = (s.svc i).port.toNat + 65536 * (s.svc i).valid.toNat ∧
      s.readRegister (0x404 + 0x10 * i.val) = (s.svc i).priv ∧
      s.readRegister (0x408 + 0x10 * i.val) = 0 ∧ s.readRegister (0x40C + 0x10 * i.val) = 0) ∧
    (s.cfg.nConn ≤ i.val → ∀ off, off < 0x20 → s.readRegister (0x100 + 0x20 * i.val + off) = 0) ∧
    (s.cfg.nServ ≤ i.val → ∀ off, off < 0x10 → s.readRegister (0x400 + 0x10 * i.val + off) = 0)

/-- R870: the interrupt line. -/
def Obligations.InterruptLine : Prop :=
  ∀ s : State, s.irq = true ↔
    (s.irqEn.getLsbD 0 = true ∧ s.done = true) ∨ (s.irqEn.getLsbD 1 = true ∧ ∃ k, s.seq = .cbWait k) ∨
    (s.irqEn.getLsbD 2 = true ∧ s.err ≠ none) ∨ (s.irqEn.getLsbD 3 = true ∧ s.fTxOverwrite = true)

/-! ## What no command changes -/

/-- No command writes ARG0, ARG1, IRQ_EN, CMD_LAST, the parameters or the other agents' records, and only INIT writes
MAC (derived: R105, R111, R115, R212). -/
def Obligations.CommandsKeepHostRegisters : Prop :=
  ∀ (i : Instr) (s t : State), exec i s = .next t →
    t.arg0 = s.arg0 ∧ t.arg1 = s.arg1 ∧ t.irqEn = s.irqEn ∧ t.cmdLast = s.cmdLast ∧ t.cfg = s.cfg ∧
    t.bus = s.bus ∧ t.wire = s.wire ∧ t.freeCount = s.freeCount ∧ t.agenda = s.agenda ∧
    (i ≠ .init → t.mac = s.mac)

/-- No command but INIT writes a byte of RXBUF (derived: R117, R202, R400; log 7). -/
def Obligations.CommandsKeepRxBuffer : Prop :=
  ∀ (i : Instr) (s t : State), Memory.wf s.mem → exec i s = .next t → i ≠ .init →
    ∀ a, a < 0x8000 → Memory.read t.mem a = Memory.read s.mem a

/-- Only SVC_REG and INIT write the service registry, only SET_MORE and INIT write MORE_CB, and only POLL, CB_RET
(which may end a POLL) and INIT touch RX_LEN and RX_ARMED: the direct receive commands do not re-arm (derived: R118,
R119, R123, R140, R406, R450, R550, R600). -/
def Obligations.RegistryWriters : Prop :=
  ∀ (i : Instr) (s t : State), exec i s = .next t → i ≠ .init →
    ((∀ j port, i ≠ .svcReg j port) → t.svcs = s.svcs) ∧ ((∀ b, i ≠ .setMore b) → t.moreCb = s.moreCb) ∧
    (i ≠ .poll → (∀ v, i ≠ .cbRet v) → t.rxLen = s.rxLen ∧ t.rxArmed = s.rxArmed)

/-- No command but INIT frees a busy TX buffer or clears F_TX_OVERWRITE: only the transport completes a frame, and the
fault bit is sticky (derived: R110, R120, R145, R231, R404). -/
def Obligations.BusyAndFaultSticky : Prop :=
  ∀ (i : Instr) (s t : State), exec i s = .next t → i ≠ .init →
    (s.txProto ≠ 0 → t.txProto ≠ 0) ∧ (s.fTxOverwrite = true → t.fTxOverwrite = true)
end

