-- ==== Sys2Proof/Laws/Checksum.lean ====
section
/-! SUPPORT. The fold of R500: two rounds always suffice, and folding keeps the value modulo 0xFFFF. -/
namespace Sys2Proof.Machine

theorem loHalf_toNat (w : Word) : (loHalf w).toNat = w.toNat % 65536 := by
  simp [loHalf, BitVec.extractLsb'_toNat]

theorem hiHalf_toNat (w : Word) : (hiHalf w).toNat = w.toNat / 65536 := by
  have := w.isLt
  simp only [hiHalf, BitVec.extractLsb'_toNat, Nat.shiftRight_eq_div_pow]
  omega

theorem hiHalf_eq_zero_iff (w : Word) : hiHalf w = 0 ↔ w.toNat < 65536 := by
  rw [← BitVec.toNat_inj, hiHalf_toNat]
  simp

theorem foldOnce_toNat (w : Word) : (foldOnce w).toNat = w.toNat % 65536 + w.toNat / 65536 := by
  have := w.isLt
  simp only [foldOnce, BitVec.toNat_add, BitVec.toNat_setWidth, loHalf_toNat, hiHalf_toNat]
  omega

/-- The fuel of `foldCarries` is enough: after two rounds no carry is left (R502). -/
theorem hiHalf_foldLoop (acc : Word) : hiHalf (foldLoop 2 acc) = 0 := by
  have := acc.isLt
  simp only [foldLoop]
  split
  · assumption
  · split
    · assumption
    · rw [hiHalf_eq_zero_iff, foldOnce_toNat, foldOnce_toNat]; omega

/-- More fuel changes nothing. -/
theorem foldLoop_fuel (k : Nat) (acc : Word) : foldLoop (k + 2) acc = foldLoop 2 acc := by
  have hz : ∀ (j : Nat) (a : Word), hiHalf a = 0 → foldLoop j a = a := by
    intro j a h
    cases j <;> simp [foldLoop, h]
  have h2 := hiHalf_foldLoop acc
  simp only [foldLoop] at h2 ⊢
  split
  · rfl
  · rename_i h
    rw [if_neg h] at h2
    split
    · rfl
    · rename_i h'
      rw [if_neg h'] at h2
      exact hz k _ h2

/-- The value of a fold (R502): 0 for 0, otherwise the representative of the residue modulo 0xFFFF in 1 to 0xFFFF. -/
theorem foldCarries_toNat (acc : Word) :
    (foldCarries acc).toNat = if acc.toNat = 0 then 0 else (acc.toNat - 1) % 65535 + 1 := by
  have := acc.isLt
  have h := (hiHalf_eq_zero_iff _).1 (hiHalf_foldLoop acc)
  rw [foldCarries, loHalf_toNat, Nat.mod_eq_of_lt h]
  simp only [foldLoop]
  split
  · rename_i h0; rw [hiHalf_eq_zero_iff] at h0; split <;> omega
  · rename_i h0
    rw [hiHalf_eq_zero_iff] at h0
    split
    · rename_i h1; rw [hiHalf_eq_zero_iff, foldOnce_toNat] at h1; rw [foldOnce_toNat]; split <;> omega
    · rename_i h1; rw [hiHalf_eq_zero_iff, foldOnce_toNat] at h1; rw [foldOnce_toNat, foldOnce_toNat]; split <;> omega

end Sys2Proof.Machine
end

