-- ==== Sys2Proof/Laws/Memory.lean ====
section
/-! SUPPORT. The buffer memory: read after write, and every write keeps the canonical form. -/
namespace Sys2Proof.Machine

theorem Memory.read_cell_append (x y : Nat) (v : Byte) (m : Memory) (h : y = x → v = 0 → Memory.read m y = 0) :
    Memory.read (Memory.cell x v ++ m) y = if y = x then v else Memory.read m y := by
  unfold Memory.cell
  split <;> rename_i hv
  · by_cases hy : y = x
    · simp [hy, hv, Memory.unlisted]; simpa [hy] using h hy hv
    · simp [hy]
  · simp [Memory.read]

/-- Addresses below every listed one read as unlisted. -/
theorem Memory.read_of_lt (m : Memory) (x : Nat) (h : ∀ c ∈ m, x < c.1) : Memory.read m x = Memory.unlisted := by
  induction m with
  | nil => rfl
  | cons c m ih =>
    obtain ⟨a, b⟩ := c
    have ha : x < a := h (a, b) (by simp)
    simp only [Memory.read, if_neg (Nat.ne_of_lt ha)]
    exact ih fun c hc => h c (by simp [hc])

/-- Read after write, in a memory of canonical form. -/
theorem Memory.read_write (m : Memory) (hm : m.wf) (x y : Nat) (v : Byte) :
    Memory.read (Memory.write m x v) y = if y = x then v else Memory.read m y := by
  induction m with
  | nil =>
    simpa [Memory.write, Memory.read, Memory.unlisted] using
      Memory.read_cell_append x y v [] (by intros; rfl)
  | cons c m ih =>
    obtain ⟨a, b⟩ := c
    obtain ⟨hp, hz⟩ := hm
    rw [List.pairwise_cons] at hp
    have hmw : Memory.wf m := ⟨hp.2, fun c hc => hz c (by simp [hc])⟩
    simp only [Memory.write]
    split
    · rename_i hlt
      apply Memory.read_cell_append
      intro hy _
      exact Memory.read_of_lt _ _ (by
        intro c hc
        rcases List.mem_cons.1 hc with rfl | hc
        · omega
        · have := hp.1 c hc; simp at this; omega)
    · split
      · rename_i hge heq
        rw [Memory.read_cell_append]
        · subst heq
          by_cases hy : y = x <;> simp [hy, Memory.read]
        · intro hy _
          exact Memory.read_of_lt _ _ (by intro c hc; have := hp.1 c hc; simp at this; omega)
      · rename_i hge hne
        simp only [Memory.read]
        by_cases hy : y = a
        · simp [hy, Ne.symm hne]
        · simp only [if_neg hy, ih hmw]

theorem Memory.mem_cell {x : Nat} {v : Byte} {c : Host.Cell} (h : c ∈ Memory.cell x v) :
    c = (x, v) ∧ v ≠ Memory.unlisted := by
  unfold Memory.cell at h
  split at h
  · simp at h
  · rename_i hv; exact ⟨by simpa using h, hv⟩

/-- Every cell after a write is the written one or an old one. -/
theorem Memory.mem_write {m : Memory} {x : Nat} {v : Byte} {c : Host.Cell} (h : c ∈ Memory.write m x v) :
    (c = (x, v) ∧ v ≠ Memory.unlisted) ∨ c ∈ m := by
  induction m with
  | nil => exact .inl (Memory.mem_cell h)
  | cons d m ih =>
    obtain ⟨a, b⟩ := d
    simp only [Memory.write] at h
    split at h
    · rcases List.mem_append.1 h with h | h
      · exact .inl (Memory.mem_cell h)
      · exact .inr h
    · split at h
      · rcases List.mem_append.1 h with h | h
        · exact .inl (Memory.mem_cell h)
        · exact .inr (List.mem_cons_of_mem _ h)
      · rcases List.mem_cons.1 h with h | h
        · exact .inr (by simp [h])
        · rcases ih h with h | h
          · exact .inl h
          · exact .inr (List.mem_cons_of_mem _ h)

/-- A write keeps the canonical form. -/
theorem Memory.wf_write (m : Memory) (hm : m.wf) (x : Nat) (v : Byte) : Memory.wf (Memory.write m x v) := by
  refine ⟨?_, fun c hc => ?_⟩
  · induction m with
    | nil => unfold Memory.write Memory.cell; split <;> simp
    | cons d m ih =>
      obtain ⟨a, b⟩ := d
      obtain ⟨hp, hz⟩ := hm
      have hp' := hp
      rw [List.pairwise_cons] at hp'
      have hmw : Memory.wf m := ⟨hp'.2, fun c hc => hz c (by simp [hc])⟩
      simp only [Memory.write]
      split
      · rename_i hlt
        unfold Memory.cell
        split
        · simpa using hp
        · simp only [List.cons_append, List.nil_append, List.pairwise_cons]
          refine ⟨fun c hc => ?_, hp'⟩
          rcases List.mem_cons.1 hc with rfl | hc
          · exact hlt
          · have := hp'.1 c hc; simp at this; simp; omega
      · split
        · rename_i hge heq
          unfold Memory.cell
          split
          · simpa using hp'.2
          · simp only [List.cons_append, List.nil_append, List.pairwise_cons]
            exact ⟨fun c hc => by have := hp'.1 c hc; simp at this; simp; omega, hp'.2⟩
        · rename_i hge hne
          rw [List.pairwise_cons]
          refine ⟨fun c hc => ?_, ih hmw⟩
          rcases Memory.mem_write hc with ⟨rfl, _⟩ | hc
          · simp; omega
          · exact hp'.1 c hc
  · rcases Memory.mem_write hc with ⟨rfl, hv⟩ | hc
    · exact hv
    · exact hm.2 c hc

/-- Writing bytes keeps the canonical form. -/
theorem Memory.wf_writeBytes (vs : List Byte) (m : Memory) (hm : m.wf) (x : Nat) :
    Memory.wf (Memory.writeBytes m x vs) := by
  induction vs generalizing m x with
  | nil => exact hm
  | cons v vs ih => exact ih _ (Memory.wf_write m hm x v) _

/-- Read after writing bytes: inside the range the written byte, outside it the old one. -/
theorem Memory.read_writeBytes (vs : List Byte) (m : Memory) (hm : m.wf) (x y : Nat) :
    Memory.read (Memory.writeBytes m x vs) y =
      if x ≤ y ∧ y < x + vs.length then vs.getD (y - x) 0 else Memory.read m y := by
  induction vs generalizing m x with
  | nil => simp [Memory.writeBytes]
  | cons v vs ih =>
    simp only [Memory.writeBytes, ih _ (Memory.wf_write m hm x v), Memory.read_write m hm, List.length_cons]
    by_cases hy : y = x
    · subst hy; simp
    · by_cases h : x + 1 ≤ y ∧ y < x + 1 + vs.length
      · have h' : x ≤ y ∧ y < x + (vs.length + 1) := by omega
        rw [if_pos h, if_pos h']
        have : y - x = (y - (x + 1)) + 1 := by omega
        rw [this, List.getD_cons_succ]
      · have h' : ¬ (x ≤ y ∧ y < x + (vs.length + 1)) := by omega
        rw [if_neg h, if_neg h', if_neg hy]

@[simp] theorem Memory.length_bytes (m : Memory) (a n : Nat) : (Memory.bytes m a n).length = n := by
  induction n generalizing a with
  | zero => rfl
  | succ n ih => simp [Memory.bytes, ih]

theorem Memory.getD_bytes (m : Memory) (a n k : Nat) (h : k < n) :
    (Memory.bytes m a n).getD k 0 = Memory.read m (a + k) := by
  induction n generalizing a k with
  | zero => omega
  | succ n ih =>
    cases k with
    | zero => simp [Memory.bytes]
    | succ k =>
      simp only [Memory.bytes, List.getD_cons_succ]
      rw [ih (a + 1) k (by omega)]
      congr 1; omega

/-- Two memories that read alike on a range have the same bytes there. -/
theorem Memory.bytes_congr (m m' : Memory) (a n : Nat)
    (h : ∀ k < n, Memory.read m (a + k) = Memory.read m' (a + k)) : Memory.bytes m a n = Memory.bytes m' a n := by
  induction n generalizing a with
  | zero => rfl
  | succ n ih =>
    simp only [Memory.bytes]
    rw [ih (a + 1) fun k hk => by have := h (k + 1) (by omega); rwa [show a + 1 + k = a + (k + 1) by omega]]
    have h0 := h 0 (by omega)
    simp only [Nat.add_zero] at h0
    rw [h0]

end Sys2Proof.Machine
end

