-- ==== Sys2Proof/Laws/State.lean ====
section
/-! SUPPORT. For every plain update of the state, one lemma per field, true by rfl, so that no later proof unfolds a
record update. -/
namespace Sys2Proof.Machine

variable (s : State)

/-! ### `State.reject` -/

@[simp] theorem State.reject_cfg (e : CmdError) :
    (s.reject e).cfg = s.cfg := rfl
@[simp] theorem State.reject_cmdLast (e : CmdError) :
    (s.reject e).cmdLast = s.cmdLast := rfl
@[simp] theorem State.reject_arg0 (e : CmdError) :
    (s.reject e).arg0 = s.arg0 := rfl
@[simp] theorem State.reject_arg1 (e : CmdError) :
    (s.reject e).arg1 = s.arg1 := rfl
@[simp] theorem State.reject_result (e : CmdError) :
    (s.reject e).result = s.result := rfl
@[simp] theorem State.reject_done (e : CmdError) :
    (s.reject e).done = s.done := rfl
@[simp] theorem State.reject_err (e : CmdError) :
    (s.reject e).err = some e := rfl
@[simp] theorem State.reject_fTxOverwrite (e : CmdError) :
    (s.reject e).fTxOverwrite = s.fTxOverwrite := rfl
@[simp] theorem State.reject_seq (e : CmdError) :
    (s.reject e).seq = s.seq := rfl
@[simp] theorem State.reject_irqEn (e : CmdError) :
    (s.reject e).irqEn = s.irqEn := rfl
@[simp] theorem State.reject_cbKind (e : CmdError) :
    (s.reject e).cbKind = s.cbKind := rfl
@[simp] theorem State.reject_cbConn (e : CmdError) :
    (s.reject e).cbConn = s.cbConn := rfl
@[simp] theorem State.reject_cbSvc (e : CmdError) :
    (s.reject e).cbSvc = s.cbSvc := rfl
@[simp] theorem State.reject_cbAddr (e : CmdError) :
    (s.reject e).cbAddr = s.cbAddr := rfl
@[simp] theorem State.reject_cbLen (e : CmdError) :
    (s.reject e).cbLen = s.cbLen := rfl
@[simp] theorem State.reject_cbRetval (e : CmdError) :
    (s.reject e).cbRetval = s.cbRetval := rfl
@[simp] theorem State.reject_errCmd (e : CmdError) :
    (s.reject e).errCmd = s.cmdLast := rfl
@[simp] theorem State.reject_mac (e : CmdError) :
    (s.reject e).mac = s.mac := rfl
@[simp] theorem State.reject_rxLen (e : CmdError) :
    (s.reject e).rxLen = s.rxLen := rfl
@[simp] theorem State.reject_rxArmed (e : CmdError) :
    (s.reject e).rxArmed = s.rxArmed := rfl
@[simp] theorem State.reject_txProto (e : CmdError) :
    (s.reject e).txProto = s.txProto := rfl
@[simp] theorem State.reject_txLen (e : CmdError) :
    (s.reject e).txLen = s.txLen := rfl
@[simp] theorem State.reject_moreCb (e : CmdError) :
    (s.reject e).moreCb = s.moreCb := rfl
@[simp] theorem State.reject_mem (e : CmdError) :
    (s.reject e).mem = s.mem := rfl
@[simp] theorem State.reject_conns (e : CmdError) :
    (s.reject e).conns = s.conns := rfl
@[simp] theorem State.reject_svcs (e : CmdError) :
    (s.reject e).svcs = s.svcs := rfl
@[simp] theorem State.reject_trace (e : CmdError) :
    (s.reject e).trace = s.trace := rfl
@[simp] theorem State.reject_bus (e : CmdError) :
    (s.reject e).bus = s.bus := rfl
@[simp] theorem State.reject_wire (e : CmdError) :
    (s.reject e).wire = s.wire := rfl
@[simp] theorem State.reject_freeCount (e : CmdError) :
    (s.reject e).freeCount = s.freeCount := rfl
@[simp] theorem State.reject_agenda (e : CmdError) :
    (s.reject e).agenda = s.agenda := rfl

/-! ### `State.complete` -/

@[simp] theorem State.complete_cfg (r : Word) :
    (s.complete r).cfg = s.cfg := rfl
@[simp] theorem State.complete_cmdLast (r : Word) :
    (s.complete r).cmdLast = s.cmdLast := rfl
@[simp] theorem State.complete_arg0 (r : Word) :
    (s.complete r).arg0 = s.arg0 := rfl
@[simp] theorem State.complete_arg1 (r : Word) :
    (s.complete r).arg1 = s.arg1 := rfl
@[simp] theorem State.complete_result (r : Word) :
    (s.complete r).result = r := rfl
@[simp] theorem State.complete_done (r : Word) :
    (s.complete r).done = true := rfl
@[simp] theorem State.complete_err (r : Word) :
    (s.complete r).err = s.err := rfl
@[simp] theorem State.complete_fTxOverwrite (r : Word) :
    (s.complete r).fTxOverwrite = s.fTxOverwrite := rfl
@[simp] theorem State.complete_seq (r : Word) :
    (s.complete r).seq = s.seq := rfl
@[simp] theorem State.complete_irqEn (r : Word) :
    (s.complete r).irqEn = s.irqEn := rfl
@[simp] theorem State.complete_cbKind (r : Word) :
    (s.complete r).cbKind = s.cbKind := rfl
@[simp] theorem State.complete_cbConn (r : Word) :
    (s.complete r).cbConn = s.cbConn := rfl
@[simp] theorem State.complete_cbSvc (r : Word) :
    (s.complete r).cbSvc = s.cbSvc := rfl
@[simp] theorem State.complete_cbAddr (r : Word) :
    (s.complete r).cbAddr = s.cbAddr := rfl
@[simp] theorem State.complete_cbLen (r : Word) :
    (s.complete r).cbLen = s.cbLen := rfl
@[simp] theorem State.complete_cbRetval (r : Word) :
    (s.complete r).cbRetval = s.cbRetval := rfl
@[simp] theorem State.complete_errCmd (r : Word) :
    (s.complete r).errCmd = s.errCmd := rfl
@[simp] theorem State.complete_mac (r : Word) :
    (s.complete r).mac = s.mac := rfl
@[simp] theorem State.complete_rxLen (r : Word) :
    (s.complete r).rxLen = s.rxLen := rfl
@[simp] theorem State.complete_rxArmed (r : Word) :
    (s.complete r).rxArmed = s.rxArmed := rfl
@[simp] theorem State.complete_txProto (r : Word) :
    (s.complete r).txProto = s.txProto := rfl
@[simp] theorem State.complete_txLen (r : Word) :
    (s.complete r).txLen = s.txLen := rfl
@[simp] theorem State.complete_moreCb (r : Word) :
    (s.complete r).moreCb = s.moreCb := rfl
@[simp] theorem State.complete_mem (r : Word) :
    (s.complete r).mem = s.mem := rfl
@[simp] theorem State.complete_conns (r : Word) :
    (s.complete r).conns = s.conns := rfl
@[simp] theorem State.complete_svcs (r : Word) :
    (s.complete r).svcs = s.svcs := rfl
@[simp] theorem State.complete_trace (r : Word) :
    (s.complete r).trace = s.trace := rfl
@[simp] theorem State.complete_bus (r : Word) :
    (s.complete r).bus = s.bus := rfl
@[simp] theorem State.complete_wire (r : Word) :
    (s.complete r).wire = s.wire := rfl
@[simp] theorem State.complete_freeCount (r : Word) :
    (s.complete r).freeCount = s.freeCount := rfl
@[simp] theorem State.complete_agenda (r : Word) :
    (s.complete r).agenda = s.agenda := rfl

/-! ### `State.writeStatus` -/

@[simp] theorem State.writeStatus_cfg (v : Word) :
    (s.writeStatus v).cfg = s.cfg := rfl
@[simp] theorem State.writeStatus_cmdLast (v : Word) :
    (s.writeStatus v).cmdLast = s.cmdLast := rfl
@[simp] theorem State.writeStatus_arg0 (v : Word) :
    (s.writeStatus v).arg0 = s.arg0 := rfl
@[simp] theorem State.writeStatus_arg1 (v : Word) :
    (s.writeStatus v).arg1 = s.arg1 := rfl
@[simp] theorem State.writeStatus_result (v : Word) :
    (s.writeStatus v).result = s.result := rfl
@[simp] theorem State.writeStatus_done (v : Word) :
    (s.writeStatus v).done = (s.done && !v.getLsbD 4) := rfl
@[simp] theorem State.writeStatus_err (v : Word) :
    (s.writeStatus v).err = if v.getLsbD 5 then none else s.err := rfl
@[simp] theorem State.writeStatus_fTxOverwrite (v : Word) :
    (s.writeStatus v).fTxOverwrite = s.fTxOverwrite := rfl
@[simp] theorem State.writeStatus_seq (v : Word) :
    (s.writeStatus v).seq = s.seq := rfl
@[simp] theorem State.writeStatus_irqEn (v : Word) :
    (s.writeStatus v).irqEn = s.irqEn := rfl
@[simp] theorem State.writeStatus_cbKind (v : Word) :
    (s.writeStatus v).cbKind = s.cbKind := rfl
@[simp] theorem State.writeStatus_cbConn (v : Word) :
    (s.writeStatus v).cbConn = s.cbConn := rfl
@[simp] theorem State.writeStatus_cbSvc (v : Word) :
    (s.writeStatus v).cbSvc = s.cbSvc := rfl
@[simp] theorem State.writeStatus_cbAddr (v : Word) :
    (s.writeStatus v).cbAddr = s.cbAddr := rfl
@[simp] theorem State.writeStatus_cbLen (v : Word) :
    (s.writeStatus v).cbLen = s.cbLen := rfl
@[simp] theorem State.writeStatus_cbRetval (v : Word) :
    (s.writeStatus v).cbRetval = s.cbRetval := rfl
@[simp] theorem State.writeStatus_errCmd (v : Word) :
    (s.writeStatus v).errCmd = s.errCmd := rfl
@[simp] theorem State.writeStatus_mac (v : Word) :
    (s.writeStatus v).mac = s.mac := rfl
@[simp] theorem State.writeStatus_rxLen (v : Word) :
    (s.writeStatus v).rxLen = s.rxLen := rfl
@[simp] theorem State.writeStatus_rxArmed (v : Word) :
    (s.writeStatus v).rxArmed = s.rxArmed := rfl
@[simp] theorem State.writeStatus_txProto (v : Word) :
    (s.writeStatus v).txProto = s.txProto := rfl
@[simp] theorem State.writeStatus_txLen (v : Word) :
    (s.writeStatus v).txLen = s.txLen := rfl
@[simp] theorem State.writeStatus_moreCb (v : Word) :
    (s.writeStatus v).moreCb = s.moreCb := rfl
@[simp] theorem State.writeStatus_mem (v : Word) :
    (s.writeStatus v).mem = s.mem := rfl
@[simp] theorem State.writeStatus_conns (v : Word) :
    (s.writeStatus v).conns = s.conns := rfl
@[simp] theorem State.writeStatus_svcs (v : Word) :
    (s.writeStatus v).svcs = s.svcs := rfl
@[simp] theorem State.writeStatus_trace (v : Word) :
    (s.writeStatus v).trace = s.trace := rfl
@[simp] theorem State.writeStatus_bus (v : Word) :
    (s.writeStatus v).bus = s.bus := rfl
@[simp] theorem State.writeStatus_wire (v : Word) :
    (s.writeStatus v).wire = s.wire := rfl
@[simp] theorem State.writeStatus_freeCount (v : Word) :
    (s.writeStatus v).freeCount = s.freeCount := rfl
@[simp] theorem State.writeStatus_agenda (v : Word) :
    (s.writeStatus v).agenda = s.agenda := rfl

/-! ### `State.noteTxUse` -/

@[simp] theorem State.noteTxUse_cfg :
    (s.noteTxUse).cfg = s.cfg := rfl
@[simp] theorem State.noteTxUse_cmdLast :
    (s.noteTxUse).cmdLast = s.cmdLast := rfl
@[simp] theorem State.noteTxUse_arg0 :
    (s.noteTxUse).arg0 = s.arg0 := rfl
@[simp] theorem State.noteTxUse_arg1 :
    (s.noteTxUse).arg1 = s.arg1 := rfl
@[simp] theorem State.noteTxUse_result :
    (s.noteTxUse).result = s.result := rfl
@[simp] theorem State.noteTxUse_done :
    (s.noteTxUse).done = s.done := rfl
@[simp] theorem State.noteTxUse_err :
    (s.noteTxUse).err = s.err := rfl
@[simp] theorem State.noteTxUse_fTxOverwrite :
    (s.noteTxUse).fTxOverwrite = (s.fTxOverwrite || s.txBusy) := rfl
@[simp] theorem State.noteTxUse_seq :
    (s.noteTxUse).seq = s.seq := rfl
@[simp] theorem State.noteTxUse_irqEn :
    (s.noteTxUse).irqEn = s.irqEn := rfl
@[simp] theorem State.noteTxUse_cbKind :
    (s.noteTxUse).cbKind = s.cbKind := rfl
@[simp] theorem State.noteTxUse_cbConn :
    (s.noteTxUse).cbConn = s.cbConn := rfl
@[simp] theorem State.noteTxUse_cbSvc :
    (s.noteTxUse).cbSvc = s.cbSvc := rfl
@[simp] theorem State.noteTxUse_cbAddr :
    (s.noteTxUse).cbAddr = s.cbAddr := rfl
@[simp] theorem State.noteTxUse_cbLen :
    (s.noteTxUse).cbLen = s.cbLen := rfl
@[simp] theorem State.noteTxUse_cbRetval :
    (s.noteTxUse).cbRetval = s.cbRetval := rfl
@[simp] theorem State.noteTxUse_errCmd :
    (s.noteTxUse).errCmd = s.errCmd := rfl
@[simp] theorem State.noteTxUse_mac :
    (s.noteTxUse).mac = s.mac := rfl
@[simp] theorem State.noteTxUse_rxLen :
    (s.noteTxUse).rxLen = s.rxLen := rfl
@[simp] theorem State.noteTxUse_rxArmed :
    (s.noteTxUse).rxArmed = s.rxArmed := rfl
@[simp] theorem State.noteTxUse_txProto :
    (s.noteTxUse).txProto = s.txProto := rfl
@[simp] theorem State.noteTxUse_txLen :
    (s.noteTxUse).txLen = s.txLen := rfl
@[simp] theorem State.noteTxUse_moreCb :
    (s.noteTxUse).moreCb = s.moreCb := rfl
@[simp] theorem State.noteTxUse_mem :
    (s.noteTxUse).mem = s.mem := rfl
@[simp] theorem State.noteTxUse_conns :
    (s.noteTxUse).conns = s.conns := rfl
@[simp] theorem State.noteTxUse_svcs :
    (s.noteTxUse).svcs = s.svcs := rfl
@[simp] theorem State.noteTxUse_trace :
    (s.noteTxUse).trace = s.trace := rfl
@[simp] theorem State.noteTxUse_bus :
    (s.noteTxUse).bus = s.bus := rfl
@[simp] theorem State.noteTxUse_wire :
    (s.noteTxUse).wire = s.wire := rfl
@[simp] theorem State.noteTxUse_freeCount :
    (s.noteTxUse).freeCount = s.freeCount := rfl
@[simp] theorem State.noteTxUse_agenda :
    (s.noteTxUse).agenda = s.agenda := rfl

/-! ### `State.raiseCallback` -/

@[simp] theorem State.raiseCallback_cfg (kind : CbKind) (c j : Slot) (a n : Nat) (k : CallbackK) :
    (s.raiseCallback kind c j a n k).cfg = s.cfg := rfl
@[simp] theorem State.raiseCallback_cmdLast (kind : CbKind) (c j : Slot) (a n : Nat) (k : CallbackK) :
    (s.raiseCallback kind c j a n k).cmdLast = s.cmdLast := rfl
@[simp] theorem State.raiseCallback_arg0 (kind : CbKind) (c j : Slot) (a n : Nat) (k : CallbackK) :
    (s.raiseCallback kind c j a n k).arg0 = s.arg0 := rfl
@[simp] theorem State.raiseCallback_arg1 (kind : CbKind) (c j : Slot) (a n : Nat) (k : CallbackK) :
    (s.raiseCallback kind c j a n k).arg1 = s.arg1 := rfl
@[simp] theorem State.raiseCallback_result (kind : CbKind) (c j : Slot) (a n : Nat) (k : CallbackK) :
    (s.raiseCallback kind c j a n k).result = s.result := rfl
@[simp] theorem State.raiseCallback_done (kind : CbKind) (c j : Slot) (a n : Nat) (k : CallbackK) :
    (s.raiseCallback kind c j a n k).done = s.done := rfl
@[simp] theorem State.raiseCallback_err (kind : CbKind) (c j : Slot) (a n : Nat) (k : CallbackK) :
    (s.raiseCallback kind c j a n k).err = s.err := rfl
@[simp] theorem State.raiseCallback_fTxOverwrite (kind : CbKind) (c j : Slot) (a n : Nat) (k : CallbackK) :
    (s.raiseCallback kind c j a n k).fTxOverwrite = s.fTxOverwrite := rfl
@[simp] theorem State.raiseCallback_seq (kind : CbKind) (c j : Slot) (a n : Nat) (k : CallbackK) :
    (s.raiseCallback kind c j a n k).seq = .cbWait k := rfl
@[simp] theorem State.raiseCallback_irqEn (kind : CbKind) (c j : Slot) (a n : Nat) (k : CallbackK) :
    (s.raiseCallback kind c j a n k).irqEn = s.irqEn := rfl
@[simp] theorem State.raiseCallback_cbKind (kind : CbKind) (c j : Slot) (a n : Nat) (k : CallbackK) :
    (s.raiseCallback kind c j a n k).cbKind = kind := rfl
@[simp] theorem State.raiseCallback_cbConn (kind : CbKind) (c j : Slot) (a n : Nat) (k : CallbackK) :
    (s.raiseCallback kind c j a n k).cbConn = c := rfl
@[simp] theorem State.raiseCallback_cbSvc (kind : CbKind) (c j : Slot) (a n : Nat) (k : CallbackK) :
    (s.raiseCallback kind c j a n k).cbSvc = j := rfl
@[simp] theorem State.raiseCallback_cbAddr (kind : CbKind) (c j : Slot) (a n : Nat) (k : CallbackK) :
    (s.raiseCallback kind c j a n k).cbAddr = BitVec.ofNat 16 a := rfl
@[simp] theorem State.raiseCallback_cbLen (kind : CbKind) (c j : Slot) (a n : Nat) (k : CallbackK) :
    (s.raiseCallback kind c j a n k).cbLen = BitVec.ofNat 16 n := rfl
@[simp] theorem State.raiseCallback_cbRetval (kind : CbKind) (c j : Slot) (a n : Nat) (k : CallbackK) :
    (s.raiseCallback kind c j a n k).cbRetval = s.cbRetval := rfl
@[simp] theorem State.raiseCallback_errCmd (kind : CbKind) (c j : Slot) (a n : Nat) (k : CallbackK) :
    (s.raiseCallback kind c j a n k).errCmd = s.errCmd := rfl
@[simp] theorem State.raiseCallback_mac (kind : CbKind) (c j : Slot) (a n : Nat) (k : CallbackK) :
    (s.raiseCallback kind c j a n k).mac = s.mac := rfl
@[simp] theorem State.raiseCallback_rxLen (kind : CbKind) (c j : Slot) (a n : Nat) (k : CallbackK) :
    (s.raiseCallback kind c j a n k).rxLen = s.rxLen := rfl
@[simp] theorem State.raiseCallback_rxArmed (kind : CbKind) (c j : Slot) (a n : Nat) (k : CallbackK) :
    (s.raiseCallback kind c j a n k).rxArmed = s.rxArmed := rfl
@[simp] theorem State.raiseCallback_txProto (kind : CbKind) (c j : Slot) (a n : Nat) (k : CallbackK) :
    (s.raiseCallback kind c j a n k).txProto = s.txProto := rfl
@[simp] theorem State.raiseCallback_txLen (kind : CbKind) (c j : Slot) (a n : Nat) (k : CallbackK) :
    (s.raiseCallback kind c j a n k).txLen = s.txLen := rfl
@[simp] theorem State.raiseCallback_moreCb (kind : CbKind) (c j : Slot) (a n : Nat) (k : CallbackK) :
    (s.raiseCallback kind c j a n k).moreCb = s.moreCb := rfl
@[simp] theorem State.raiseCallback_mem (kind : CbKind) (c j : Slot) (a n : Nat) (k : CallbackK) :
    (s.raiseCallback kind c j a n k).mem = s.mem := rfl
@[simp] theorem State.raiseCallback_conns (kind : CbKind) (c j : Slot) (a n : Nat) (k : CallbackK) :
    (s.raiseCallback kind c j a n k).conns = s.conns := rfl
@[simp] theorem State.raiseCallback_svcs (kind : CbKind) (c j : Slot) (a n : Nat) (k : CallbackK) :
    (s.raiseCallback kind c j a n k).svcs = s.svcs := rfl
@[simp] theorem State.raiseCallback_trace (kind : CbKind) (c j : Slot) (a n : Nat) (k : CallbackK) :
    (s.raiseCallback kind c j a n k).trace = s.trace := rfl
@[simp] theorem State.raiseCallback_bus (kind : CbKind) (c j : Slot) (a n : Nat) (k : CallbackK) :
    (s.raiseCallback kind c j a n k).bus = s.bus := rfl
@[simp] theorem State.raiseCallback_wire (kind : CbKind) (c j : Slot) (a n : Nat) (k : CallbackK) :
    (s.raiseCallback kind c j a n k).wire = s.wire := rfl
@[simp] theorem State.raiseCallback_freeCount (kind : CbKind) (c j : Slot) (a n : Nat) (k : CallbackK) :
    (s.raiseCallback kind c j a n k).freeCount = s.freeCount := rfl
@[simp] theorem State.raiseCallback_agenda (kind : CbKind) (c j : Slot) (a n : Nat) (k : CallbackK) :
    (s.raiseCallback kind c j a n k).agenda = s.agenda := rfl

/-! ### `State.callbackReturn` -/

@[simp] theorem State.callbackReturn_cfg (v : Half) :
    (s.callbackReturn v).cfg = s.cfg := rfl
@[simp] theorem State.callbackReturn_cmdLast (v : Half) :
    (s.callbackReturn v).cmdLast = s.cmdLast := rfl
@[simp] theorem State.callbackReturn_arg0 (v : Half) :
    (s.callbackReturn v).arg0 = s.arg0 := rfl
@[simp] theorem State.callbackReturn_arg1 (v : Half) :
    (s.callbackReturn v).arg1 = s.arg1 := rfl
@[simp] theorem State.callbackReturn_result (v : Half) :
    (s.callbackReturn v).result = s.result := rfl
@[simp] theorem State.callbackReturn_done (v : Half) :
    (s.callbackReturn v).done = true := rfl
@[simp] theorem State.callbackReturn_err (v : Half) :
    (s.callbackReturn v).err = s.err := rfl
@[simp] theorem State.callbackReturn_fTxOverwrite (v : Half) :
    (s.callbackReturn v).fTxOverwrite = s.fTxOverwrite := rfl
@[simp] theorem State.callbackReturn_seq (v : Half) :
    (s.callbackReturn v).seq = .idle := rfl
@[simp] theorem State.callbackReturn_irqEn (v : Half) :
    (s.callbackReturn v).irqEn = s.irqEn := rfl
@[simp] theorem State.callbackReturn_cbKind (v : Half) :
    (s.callbackReturn v).cbKind = .none := rfl
@[simp] theorem State.callbackReturn_cbConn (v : Half) :
    (s.callbackReturn v).cbConn = s.cbConn := rfl
@[simp] theorem State.callbackReturn_cbSvc (v : Half) :
    (s.callbackReturn v).cbSvc = s.cbSvc := rfl
@[simp] theorem State.callbackReturn_cbAddr (v : Half) :
    (s.callbackReturn v).cbAddr = s.cbAddr := rfl
@[simp] theorem State.callbackReturn_cbLen (v : Half) :
    (s.callbackReturn v).cbLen = s.cbLen := rfl
@[simp] theorem State.callbackReturn_cbRetval (v : Half) :
    (s.callbackReturn v).cbRetval = v := rfl
@[simp] theorem State.callbackReturn_errCmd (v : Half) :
    (s.callbackReturn v).errCmd = s.errCmd := rfl
@[simp] theorem State.callbackReturn_mac (v : Half) :
    (s.callbackReturn v).mac = s.mac := rfl
@[simp] theorem State.callbackReturn_rxLen (v : Half) :
    (s.callbackReturn v).rxLen = s.rxLen := rfl
@[simp] theorem State.callbackReturn_rxArmed (v : Half) :
    (s.callbackReturn v).rxArmed = s.rxArmed := rfl
@[simp] theorem State.callbackReturn_txProto (v : Half) :
    (s.callbackReturn v).txProto = s.txProto := rfl
@[simp] theorem State.callbackReturn_txLen (v : Half) :
    (s.callbackReturn v).txLen = s.txLen := rfl
@[simp] theorem State.callbackReturn_moreCb (v : Half) :
    (s.callbackReturn v).moreCb = s.moreCb := rfl
@[simp] theorem State.callbackReturn_mem (v : Half) :
    (s.callbackReturn v).mem = s.mem := rfl
@[simp] theorem State.callbackReturn_conns (v : Half) :
    (s.callbackReturn v).conns = s.conns := rfl
@[simp] theorem State.callbackReturn_svcs (v : Half) :
    (s.callbackReturn v).svcs = s.svcs := rfl
@[simp] theorem State.callbackReturn_trace (v : Half) :
    (s.callbackReturn v).trace = s.trace := rfl
@[simp] theorem State.callbackReturn_bus (v : Half) :
    (s.callbackReturn v).bus = s.bus := rfl
@[simp] theorem State.callbackReturn_wire (v : Half) :
    (s.callbackReturn v).wire = s.wire := rfl
@[simp] theorem State.callbackReturn_freeCount (v : Half) :
    (s.callbackReturn v).freeCount = s.freeCount := rfl
@[simp] theorem State.callbackReturn_agenda (v : Half) :
    (s.callbackReturn v).agenda = s.agenda := rfl

/-! ### `State.emit` -/

@[simp] theorem State.emit_cfg (e : Event) :
    (s.emit e).cfg = s.cfg := rfl
@[simp] theorem State.emit_cmdLast (e : Event) :
    (s.emit e).cmdLast = s.cmdLast := rfl
@[simp] theorem State.emit_arg0 (e : Event) :
    (s.emit e).arg0 = s.arg0 := rfl
@[simp] theorem State.emit_arg1 (e : Event) :
    (s.emit e).arg1 = s.arg1 := rfl
@[simp] theorem State.emit_result (e : Event) :
    (s.emit e).result = s.result := rfl
@[simp] theorem State.emit_done (e : Event) :
    (s.emit e).done = s.done := rfl
@[simp] theorem State.emit_err (e : Event) :
    (s.emit e).err = s.err := rfl
@[simp] theorem State.emit_fTxOverwrite (e : Event) :
    (s.emit e).fTxOverwrite = s.fTxOverwrite := rfl
@[simp] theorem State.emit_seq (e : Event) :
    (s.emit e).seq = s.seq := rfl
@[simp] theorem State.emit_irqEn (e : Event) :
    (s.emit e).irqEn = s.irqEn := rfl
@[simp] theorem State.emit_cbKind (e : Event) :
    (s.emit e).cbKind = s.cbKind := rfl
@[simp] theorem State.emit_cbConn (e : Event) :
    (s.emit e).cbConn = s.cbConn := rfl
@[simp] theorem State.emit_cbSvc (e : Event) :
    (s.emit e).cbSvc = s.cbSvc := rfl
@[simp] theorem State.emit_cbAddr (e : Event) :
    (s.emit e).cbAddr = s.cbAddr := rfl
@[simp] theorem State.emit_cbLen (e : Event) :
    (s.emit e).cbLen = s.cbLen := rfl
@[simp] theorem State.emit_cbRetval (e : Event) :
    (s.emit e).cbRetval = s.cbRetval := rfl
@[simp] theorem State.emit_errCmd (e : Event) :
    (s.emit e).errCmd = s.errCmd := rfl
@[simp] theorem State.emit_mac (e : Event) :
    (s.emit e).mac = s.mac := rfl
@[simp] theorem State.emit_rxLen (e : Event) :
    (s.emit e).rxLen = s.rxLen := rfl
@[simp] theorem State.emit_rxArmed (e : Event) :
    (s.emit e).rxArmed = s.rxArmed := rfl
@[simp] theorem State.emit_txProto (e : Event) :
    (s.emit e).txProto = s.txProto := rfl
@[simp] theorem State.emit_txLen (e : Event) :
    (s.emit e).txLen = s.txLen := rfl
@[simp] theorem State.emit_moreCb (e : Event) :
    (s.emit e).moreCb = s.moreCb := rfl
@[simp] theorem State.emit_mem (e : Event) :
    (s.emit e).mem = s.mem := rfl
@[simp] theorem State.emit_conns (e : Event) :
    (s.emit e).conns = s.conns := rfl
@[simp] theorem State.emit_svcs (e : Event) :
    (s.emit e).svcs = s.svcs := rfl
@[simp] theorem State.emit_trace (e : Event) :
    (s.emit e).trace = s.trace ++ [e] := rfl
@[simp] theorem State.emit_bus (e : Event) :
    (s.emit e).bus = s.bus := rfl
@[simp] theorem State.emit_wire (e : Event) :
    (s.emit e).wire = s.wire := rfl
@[simp] theorem State.emit_freeCount (e : Event) :
    (s.emit e).freeCount = s.freeCount := rfl
@[simp] theorem State.emit_agenda (e : Event) :
    (s.emit e).agenda = s.agenda := rfl

/-! ### `State.log` -/

@[simp] theorem State.log_cfg (c : LogCode) (a : Word) :
    (s.log c a).cfg = s.cfg := rfl
@[simp] theorem State.log_cmdLast (c : LogCode) (a : Word) :
    (s.log c a).cmdLast = s.cmdLast := rfl
@[simp] theorem State.log_arg0 (c : LogCode) (a : Word) :
    (s.log c a).arg0 = s.arg0 := rfl
@[simp] theorem State.log_arg1 (c : LogCode) (a : Word) :
    (s.log c a).arg1 = s.arg1 := rfl
@[simp] theorem State.log_result (c : LogCode) (a : Word) :
    (s.log c a).result = s.result := rfl
@[simp] theorem State.log_done (c : LogCode) (a : Word) :
    (s.log c a).done = s.done := rfl
@[simp] theorem State.log_err (c : LogCode) (a : Word) :
    (s.log c a).err = s.err := rfl
@[simp] theorem State.log_fTxOverwrite (c : LogCode) (a : Word) :
    (s.log c a).fTxOverwrite = s.fTxOverwrite := rfl
@[simp] theorem State.log_seq (c : LogCode) (a : Word) :
    (s.log c a).seq = s.seq := rfl
@[simp] theorem State.log_irqEn (c : LogCode) (a : Word) :
    (s.log c a).irqEn = s.irqEn := rfl
@[simp] theorem State.log_cbKind (c : LogCode) (a : Word) :
    (s.log c a).cbKind = s.cbKind := rfl
@[simp] theorem State.log_cbConn (c : LogCode) (a : Word) :
    (s.log c a).cbConn = s.cbConn := rfl
@[simp] theorem State.log_cbSvc (c : LogCode) (a : Word) :
    (s.log c a).cbSvc = s.cbSvc := rfl
@[simp] theorem State.log_cbAddr (c : LogCode) (a : Word) :
    (s.log c a).cbAddr = s.cbAddr := rfl
@[simp] theorem State.log_cbLen (c : LogCode) (a : Word) :
    (s.log c a).cbLen = s.cbLen := rfl
@[simp] theorem State.log_cbRetval (c : LogCode) (a : Word) :
    (s.log c a).cbRetval = s.cbRetval := rfl
@[simp] theorem State.log_errCmd (c : LogCode) (a : Word) :
    (s.log c a).errCmd = s.errCmd := rfl
@[simp] theorem State.log_mac (c : LogCode) (a : Word) :
    (s.log c a).mac = s.mac := rfl
@[simp] theorem State.log_rxLen (c : LogCode) (a : Word) :
    (s.log c a).rxLen = s.rxLen := rfl
@[simp] theorem State.log_rxArmed (c : LogCode) (a : Word) :
    (s.log c a).rxArmed = s.rxArmed := rfl
@[simp] theorem State.log_txProto (c : LogCode) (a : Word) :
    (s.log c a).txProto = s.txProto := rfl
@[simp] theorem State.log_txLen (c : LogCode) (a : Word) :
    (s.log c a).txLen = s.txLen := rfl
@[simp] theorem State.log_moreCb (c : LogCode) (a : Word) :
    (s.log c a).moreCb = s.moreCb := rfl
@[simp] theorem State.log_mem (c : LogCode) (a : Word) :
    (s.log c a).mem = s.mem := rfl
@[simp] theorem State.log_conns (c : LogCode) (a : Word) :
    (s.log c a).conns = s.conns := rfl
@[simp] theorem State.log_svcs (c : LogCode) (a : Word) :
    (s.log c a).svcs = s.svcs := rfl
@[simp] theorem State.log_trace (c : LogCode) (a : Word) :
    (s.log c a).trace = s.trace ++ [.log c a] := rfl
@[simp] theorem State.log_bus (c : LogCode) (a : Word) :
    (s.log c a).bus = s.bus := rfl
@[simp] theorem State.log_wire (c : LogCode) (a : Word) :
    (s.log c a).wire = s.wire := rfl
@[simp] theorem State.log_freeCount (c : LogCode) (a : Word) :
    (s.log c a).freeCount = s.freeCount := rfl
@[simp] theorem State.log_agenda (c : LogCode) (a : Word) :
    (s.log c a).agenda = s.agenda := rfl

/-! ### `State.setConn` -/

@[simp] theorem State.setConn_cfg (i : Slot) (c : Conn) :
    (s.setConn i c).cfg = s.cfg := rfl
@[simp] theorem State.setConn_cmdLast (i : Slot) (c : Conn) :
    (s.setConn i c).cmdLast = s.cmdLast := rfl
@[simp] theorem State.setConn_arg0 (i : Slot) (c : Conn) :
    (s.setConn i c).arg0 = s.arg0 := rfl
@[simp] theorem State.setConn_arg1 (i : Slot) (c : Conn) :
    (s.setConn i c).arg1 = s.arg1 := rfl
@[simp] theorem State.setConn_result (i : Slot) (c : Conn) :
    (s.setConn i c).result = s.result := rfl
@[simp] theorem State.setConn_done (i : Slot) (c : Conn) :
    (s.setConn i c).done = s.done := rfl
@[simp] theorem State.setConn_err (i : Slot) (c : Conn) :
    (s.setConn i c).err = s.err := rfl
@[simp] theorem State.setConn_fTxOverwrite (i : Slot) (c : Conn) :
    (s.setConn i c).fTxOverwrite = s.fTxOverwrite := rfl
@[simp] theorem State.setConn_seq (i : Slot) (c : Conn) :
    (s.setConn i c).seq = s.seq := rfl
@[simp] theorem State.setConn_irqEn (i : Slot) (c : Conn) :
    (s.setConn i c).irqEn = s.irqEn := rfl
@[simp] theorem State.setConn_cbKind (i : Slot) (c : Conn) :
    (s.setConn i c).cbKind = s.cbKind := rfl
@[simp] theorem State.setConn_cbConn (i : Slot) (c : Conn) :
    (s.setConn i c).cbConn = s.cbConn := rfl
@[simp] theorem State.setConn_cbSvc (i : Slot) (c : Conn) :
    (s.setConn i c).cbSvc = s.cbSvc := rfl
@[simp] theorem State.setConn_cbAddr (i : Slot) (c : Conn) :
    (s.setConn i c).cbAddr = s.cbAddr := rfl
@[simp] theorem State.setConn_cbLen (i : Slot) (c : Conn) :
    (s.setConn i c).cbLen = s.cbLen := rfl
@[simp] theorem State.setConn_cbRetval (i : Slot) (c : Conn) :
    (s.setConn i c).cbRetval = s.cbRetval := rfl
@[simp] theorem State.setConn_errCmd (i : Slot) (c : Conn) :
    (s.setConn i c).errCmd = s.errCmd := rfl
@[simp] theorem State.setConn_mac (i : Slot) (c : Conn) :
    (s.setConn i c).mac = s.mac := rfl
@[simp] theorem State.setConn_rxLen (i : Slot) (c : Conn) :
    (s.setConn i c).rxLen = s.rxLen := rfl
@[simp] theorem State.setConn_rxArmed (i : Slot) (c : Conn) :
    (s.setConn i c).rxArmed = s.rxArmed := rfl
@[simp] theorem State.setConn_txProto (i : Slot) (c : Conn) :
    (s.setConn i c).txProto = s.txProto := rfl
@[simp] theorem State.setConn_txLen (i : Slot) (c : Conn) :
    (s.setConn i c).txLen = s.txLen := rfl
@[simp] theorem State.setConn_moreCb (i : Slot) (c : Conn) :
    (s.setConn i c).moreCb = s.moreCb := rfl
@[simp] theorem State.setConn_mem (i : Slot) (c : Conn) :
    (s.setConn i c).mem = s.mem := rfl
@[simp] theorem State.setConn_conns (i : Slot) (c : Conn) :
    (s.setConn i c).conns = s.conns.set i c := rfl
@[simp] theorem State.setConn_svcs (i : Slot) (c : Conn) :
    (s.setConn i c).svcs = s.svcs := rfl
@[simp] theorem State.setConn_trace (i : Slot) (c : Conn) :
    (s.setConn i c).trace = s.trace := rfl
@[simp] theorem State.setConn_bus (i : Slot) (c : Conn) :
    (s.setConn i c).bus = s.bus := rfl
@[simp] theorem State.setConn_wire (i : Slot) (c : Conn) :
    (s.setConn i c).wire = s.wire := rfl
@[simp] theorem State.setConn_freeCount (i : Slot) (c : Conn) :
    (s.setConn i c).freeCount = s.freeCount := rfl
@[simp] theorem State.setConn_agenda (i : Slot) (c : Conn) :
    (s.setConn i c).agenda = s.agenda := rfl

/-! ### `State.setSvc` -/

@[simp] theorem State.setSvc_cfg (j : Slot) (v : Svc) :
    (s.setSvc j v).cfg = s.cfg := rfl
@[simp] theorem State.setSvc_cmdLast (j : Slot) (v : Svc) :
    (s.setSvc j v).cmdLast = s.cmdLast := rfl
@[simp] theorem State.setSvc_arg0 (j : Slot) (v : Svc) :
    (s.setSvc j v).arg0 = s.arg0 := rfl
@[simp] theorem State.setSvc_arg1 (j : Slot) (v : Svc) :
    (s.setSvc j v).arg1 = s.arg1 := rfl
@[simp] theorem State.setSvc_result (j : Slot) (v : Svc) :
    (s.setSvc j v).result = s.result := rfl
@[simp] theorem State.setSvc_done (j : Slot) (v : Svc) :
    (s.setSvc j v).done = s.done := rfl
@[simp] theorem State.setSvc_err (j : Slot) (v : Svc) :
    (s.setSvc j v).err = s.err := rfl
@[simp] theorem State.setSvc_fTxOverwrite (j : Slot) (v : Svc) :
    (s.setSvc j v).fTxOverwrite = s.fTxOverwrite := rfl
@[simp] theorem State.setSvc_seq (j : Slot) (v : Svc) :
    (s.setSvc j v).seq = s.seq := rfl
@[simp] theorem State.setSvc_irqEn (j : Slot) (v : Svc) :
    (s.setSvc j v).irqEn = s.irqEn := rfl
@[simp] theorem State.setSvc_cbKind (j : Slot) (v : Svc) :
    (s.setSvc j v).cbKind = s.cbKind := rfl
@[simp] theorem State.setSvc_cbConn (j : Slot) (v : Svc) :
    (s.setSvc j v).cbConn = s.cbConn := rfl
@[simp] theorem State.setSvc_cbSvc (j : Slot) (v : Svc) :
    (s.setSvc j v).cbSvc = s.cbSvc := rfl
@[simp] theorem State.setSvc_cbAddr (j : Slot) (v : Svc) :
    (s.setSvc j v).cbAddr = s.cbAddr := rfl
@[simp] theorem State.setSvc_cbLen (j : Slot) (v : Svc) :
    (s.setSvc j v).cbLen = s.cbLen := rfl
@[simp] theorem State.setSvc_cbRetval (j : Slot) (v : Svc) :
    (s.setSvc j v).cbRetval = s.cbRetval := rfl
@[simp] theorem State.setSvc_errCmd (j : Slot) (v : Svc) :
    (s.setSvc j v).errCmd = s.errCmd := rfl
@[simp] theorem State.setSvc_mac (j : Slot) (v : Svc) :
    (s.setSvc j v).mac = s.mac := rfl
@[simp] theorem State.setSvc_rxLen (j : Slot) (v : Svc) :
    (s.setSvc j v).rxLen = s.rxLen := rfl
@[simp] theorem State.setSvc_rxArmed (j : Slot) (v : Svc) :
    (s.setSvc j v).rxArmed = s.rxArmed := rfl
@[simp] theorem State.setSvc_txProto (j : Slot) (v : Svc) :
    (s.setSvc j v).txProto = s.txProto := rfl
@[simp] theorem State.setSvc_txLen (j : Slot) (v : Svc) :
    (s.setSvc j v).txLen = s.txLen := rfl
@[simp] theorem State.setSvc_moreCb (j : Slot) (v : Svc) :
    (s.setSvc j v).moreCb = s.moreCb := rfl
@[simp] theorem State.setSvc_mem (j : Slot) (v : Svc) :
    (s.setSvc j v).mem = s.mem := rfl
@[simp] theorem State.setSvc_conns (j : Slot) (v : Svc) :
    (s.setSvc j v).conns = s.conns := rfl
@[simp] theorem State.setSvc_svcs (j : Slot) (v : Svc) :
    (s.setSvc j v).svcs = s.svcs.set j v := rfl
@[simp] theorem State.setSvc_trace (j : Slot) (v : Svc) :
    (s.setSvc j v).trace = s.trace := rfl
@[simp] theorem State.setSvc_bus (j : Slot) (v : Svc) :
    (s.setSvc j v).bus = s.bus := rfl
@[simp] theorem State.setSvc_wire (j : Slot) (v : Svc) :
    (s.setSvc j v).wire = s.wire := rfl
@[simp] theorem State.setSvc_freeCount (j : Slot) (v : Svc) :
    (s.setSvc j v).freeCount = s.freeCount := rfl
@[simp] theorem State.setSvc_agenda (j : Slot) (v : Svc) :
    (s.setSvc j v).agenda = s.agenda := rfl

/-! ### `State.rearm` -/

@[simp] theorem State.rearm_cfg :
    (s.rearm).cfg = s.cfg := rfl
@[simp] theorem State.rearm_cmdLast :
    (s.rearm).cmdLast = s.cmdLast := rfl
@[simp] theorem State.rearm_arg0 :
    (s.rearm).arg0 = s.arg0 := rfl
@[simp] theorem State.rearm_arg1 :
    (s.rearm).arg1 = s.arg1 := rfl
@[simp] theorem State.rearm_result :
    (s.rearm).result = s.result := rfl
@[simp] theorem State.rearm_done :
    (s.rearm).done = s.done := rfl
@[simp] theorem State.rearm_err :
    (s.rearm).err = s.err := rfl
@[simp] theorem State.rearm_fTxOverwrite :
    (s.rearm).fTxOverwrite = s.fTxOverwrite := rfl
@[simp] theorem State.rearm_seq :
    (s.rearm).seq = s.seq := rfl
@[simp] theorem State.rearm_irqEn :
    (s.rearm).irqEn = s.irqEn := rfl
@[simp] theorem State.rearm_cbKind :
    (s.rearm).cbKind = s.cbKind := rfl
@[simp] theorem State.rearm_cbConn :
    (s.rearm).cbConn = s.cbConn := rfl
@[simp] theorem State.rearm_cbSvc :
    (s.rearm).cbSvc = s.cbSvc := rfl
@[simp] theorem State.rearm_cbAddr :
    (s.rearm).cbAddr = s.cbAddr := rfl
@[simp] theorem State.rearm_cbLen :
    (s.rearm).cbLen = s.cbLen := rfl
@[simp] theorem State.rearm_cbRetval :
    (s.rearm).cbRetval = s.cbRetval := rfl
@[simp] theorem State.rearm_errCmd :
    (s.rearm).errCmd = s.errCmd := rfl
@[simp] theorem State.rearm_mac :
    (s.rearm).mac = s.mac := rfl
@[simp] theorem State.rearm_rxLen :
    (s.rearm).rxLen = 0 := rfl
@[simp] theorem State.rearm_rxArmed :
    (s.rearm).rxArmed = true := rfl
@[simp] theorem State.rearm_txProto :
    (s.rearm).txProto = s.txProto := rfl
@[simp] theorem State.rearm_txLen :
    (s.rearm).txLen = s.txLen := rfl
@[simp] theorem State.rearm_moreCb :
    (s.rearm).moreCb = s.moreCb := rfl
@[simp] theorem State.rearm_mem :
    (s.rearm).mem = s.mem := rfl
@[simp] theorem State.rearm_conns :
    (s.rearm).conns = s.conns := rfl
@[simp] theorem State.rearm_svcs :
    (s.rearm).svcs = s.svcs := rfl
@[simp] theorem State.rearm_trace :
    (s.rearm).trace = s.trace ++ [.rxRearm] := rfl
@[simp] theorem State.rearm_bus :
    (s.rearm).bus = s.bus := rfl
@[simp] theorem State.rearm_wire :
    (s.rearm).wire = s.wire := rfl
@[simp] theorem State.rearm_freeCount :
    (s.rearm).freeCount = s.freeCount := rfl
@[simp] theorem State.rearm_agenda :
    (s.rearm).agenda = s.agenda := rfl

/-! ### `State.handOver` -/

@[simp] theorem State.handOver_cfg (n : Nat) :
    (s.handOver n).cfg = s.cfg := rfl
@[simp] theorem State.handOver_cmdLast (n : Nat) :
    (s.handOver n).cmdLast = s.cmdLast := rfl
@[simp] theorem State.handOver_arg0 (n : Nat) :
    (s.handOver n).arg0 = s.arg0 := rfl
@[simp] theorem State.handOver_arg1 (n : Nat) :
    (s.handOver n).arg1 = s.arg1 := rfl
@[simp] theorem State.handOver_result (n : Nat) :
    (s.handOver n).result = s.result := rfl
@[simp] theorem State.handOver_done (n : Nat) :
    (s.handOver n).done = s.done := rfl
@[simp] theorem State.handOver_err (n : Nat) :
    (s.handOver n).err = s.err := rfl
@[simp] theorem State.handOver_fTxOverwrite (n : Nat) :
    (s.handOver n).fTxOverwrite = (s.fTxOverwrite || s.txBusy) := rfl
@[simp] theorem State.handOver_seq (n : Nat) :
    (s.handOver n).seq = s.seq := rfl
@[simp] theorem State.handOver_irqEn (n : Nat) :
    (s.handOver n).irqEn = s.irqEn := rfl
@[simp] theorem State.handOver_cbKind (n : Nat) :
    (s.handOver n).cbKind = s.cbKind := rfl
@[simp] theorem State.handOver_cbConn (n : Nat) :
    (s.handOver n).cbConn = s.cbConn := rfl
@[simp] theorem State.handOver_cbSvc (n : Nat) :
    (s.handOver n).cbSvc = s.cbSvc := rfl
@[simp] theorem State.handOver_cbAddr (n : Nat) :
    (s.handOver n).cbAddr = s.cbAddr := rfl
@[simp] theorem State.handOver_cbLen (n : Nat) :
    (s.handOver n).cbLen = s.cbLen := rfl
@[simp] theorem State.handOver_cbRetval (n : Nat) :
    (s.handOver n).cbRetval = s.cbRetval := rfl
@[simp] theorem State.handOver_errCmd (n : Nat) :
    (s.handOver n).errCmd = s.errCmd := rfl
@[simp] theorem State.handOver_mac (n : Nat) :
    (s.handOver n).mac = s.mac := rfl
@[simp] theorem State.handOver_rxLen (n : Nat) :
    (s.handOver n).rxLen = s.rxLen := rfl
@[simp] theorem State.handOver_rxArmed (n : Nat) :
    (s.handOver n).rxArmed = s.rxArmed := rfl
@[simp] theorem State.handOver_txProto (n : Nat) :
    (s.handOver n).txProto = s.tx16 12 := rfl
@[simp] theorem State.handOver_txLen (n : Nat) :
    (s.handOver n).txLen = BitVec.ofNat 16 (ethHeader + n) := rfl
@[simp] theorem State.handOver_moreCb (n : Nat) :
    (s.handOver n).moreCb = s.moreCb := rfl
@[simp] theorem State.handOver_mem (n : Nat) :
    (s.handOver n).mem = s.mem := rfl
@[simp] theorem State.handOver_conns (n : Nat) :
    (s.handOver n).conns = s.conns := rfl
@[simp] theorem State.handOver_svcs (n : Nat) :
    (s.handOver n).svcs = s.svcs := rfl
@[simp] theorem State.handOver_trace (n : Nat) :
    (s.handOver n).trace = s.trace ++ [.frameSent (Memory.bytes s.mem txBase (ethHeader + n)) (ethHeader + n)] := rfl
@[simp] theorem State.handOver_bus (n : Nat) :
    (s.handOver n).bus = s.bus := rfl
@[simp] theorem State.handOver_wire (n : Nat) :
    (s.handOver n).wire = s.wire := rfl
@[simp] theorem State.handOver_freeCount (n : Nat) :
    (s.handOver n).freeCount = s.freeCount := rfl
@[simp] theorem State.handOver_agenda (n : Nat) :
    (s.handOver n).agenda = s.agenda := rfl

/-! ### `State.hostRead` -/

@[simp] theorem State.hostRead_cfg (w : Width) (a : BitVec 16) :
    (s.hostRead w a).cfg = s.cfg := rfl
@[simp] theorem State.hostRead_cmdLast (w : Width) (a : BitVec 16) :
    (s.hostRead w a).cmdLast = s.cmdLast := rfl
@[simp] theorem State.hostRead_arg0 (w : Width) (a : BitVec 16) :
    (s.hostRead w a).arg0 = s.arg0 := rfl
@[simp] theorem State.hostRead_arg1 (w : Width) (a : BitVec 16) :
    (s.hostRead w a).arg1 = s.arg1 := rfl
@[simp] theorem State.hostRead_result (w : Width) (a : BitVec 16) :
    (s.hostRead w a).result = s.result := rfl
@[simp] theorem State.hostRead_done (w : Width) (a : BitVec 16) :
    (s.hostRead w a).done = s.done := rfl
@[simp] theorem State.hostRead_err (w : Width) (a : BitVec 16) :
    (s.hostRead w a).err = s.err := rfl
@[simp] theorem State.hostRead_fTxOverwrite (w : Width) (a : BitVec 16) :
    (s.hostRead w a).fTxOverwrite = s.fTxOverwrite := rfl
@[simp] theorem State.hostRead_seq (w : Width) (a : BitVec 16) :
    (s.hostRead w a).seq = s.seq := rfl
@[simp] theorem State.hostRead_irqEn (w : Width) (a : BitVec 16) :
    (s.hostRead w a).irqEn = s.irqEn := rfl
@[simp] theorem State.hostRead_cbKind (w : Width) (a : BitVec 16) :
    (s.hostRead w a).cbKind = s.cbKind := rfl
@[simp] theorem State.hostRead_cbConn (w : Width) (a : BitVec 16) :
    (s.hostRead w a).cbConn = s.cbConn := rfl
@[simp] theorem State.hostRead_cbSvc (w : Width) (a : BitVec 16) :
    (s.hostRead w a).cbSvc = s.cbSvc := rfl
@[simp] theorem State.hostRead_cbAddr (w : Width) (a : BitVec 16) :
    (s.hostRead w a).cbAddr = s.cbAddr := rfl
@[simp] theorem State.hostRead_cbLen (w : Width) (a : BitVec 16) :
    (s.hostRead w a).cbLen = s.cbLen := rfl
@[simp] theorem State.hostRead_cbRetval (w : Width) (a : BitVec 16) :
    (s.hostRead w a).cbRetval = s.cbRetval := rfl
@[simp] theorem State.hostRead_errCmd (w : Width) (a : BitVec 16) :
    (s.hostRead w a).errCmd = s.errCmd := rfl
@[simp] theorem State.hostRead_mac (w : Width) (a : BitVec 16) :
    (s.hostRead w a).mac = s.mac := rfl
@[simp] theorem State.hostRead_rxLen (w : Width) (a : BitVec 16) :
    (s.hostRead w a).rxLen = s.rxLen := rfl
@[simp] theorem State.hostRead_rxArmed (w : Width) (a : BitVec 16) :
    (s.hostRead w a).rxArmed = s.rxArmed := rfl
@[simp] theorem State.hostRead_txProto (w : Width) (a : BitVec 16) :
    (s.hostRead w a).txProto = s.txProto := rfl
@[simp] theorem State.hostRead_txLen (w : Width) (a : BitVec 16) :
    (s.hostRead w a).txLen = s.txLen := rfl
@[simp] theorem State.hostRead_moreCb (w : Width) (a : BitVec 16) :
    (s.hostRead w a).moreCb = s.moreCb := rfl
@[simp] theorem State.hostRead_mem (w : Width) (a : BitVec 16) :
    (s.hostRead w a).mem = s.mem := rfl
@[simp] theorem State.hostRead_conns (w : Width) (a : BitVec 16) :
    (s.hostRead w a).conns = s.conns := rfl
@[simp] theorem State.hostRead_svcs (w : Width) (a : BitVec 16) :
    (s.hostRead w a).svcs = s.svcs := rfl
@[simp] theorem State.hostRead_trace (w : Width) (a : BitVec 16) :
    (s.hostRead w a).trace = s.trace := rfl
@[simp] theorem State.hostRead_bus (w : Width) (a : BitVec 16) :
    (s.hostRead w a).bus = s.readBus w a.toNat := rfl
@[simp] theorem State.hostRead_wire (w : Width) (a : BitVec 16) :
    (s.hostRead w a).wire = s.wire := rfl
@[simp] theorem State.hostRead_freeCount (w : Width) (a : BitVec 16) :
    (s.hostRead w a).freeCount = s.freeCount := rfl
@[simp] theorem State.hostRead_agenda (w : Width) (a : BitVec 16) :
    (s.hostRead w a).agenda = s.agenda := rfl

end Sys2Proof.Machine
end

