-- ==== Sys2Proof/Laws/Tx.lean ====
section
/-! SUPPORT. What the shared operations on the TX buffer and the frame builders can change (their frames), and
what they write. -/
namespace Sys2Proof.Machine

/-- `t` differs from `s` at most in the buffers and F_TX_OVERWRITE, RXBUF unchanged. -/
structure TxOnly (s t : State) : Prop where
  rest : t = { s with mem := t.mem, fTxOverwrite := t.fTxOverwrite }
  inside : (∀ c ∈ s.mem, s.isBufferByte c.1 = true) → ∀ c ∈ t.mem, s.isBufferByte c.1 = true
  below : Memory.wf s.mem → ∀ a < txBase, Memory.read t.mem a = Memory.read s.mem a
  wf : Memory.wf s.mem → Memory.wf t.mem
  sticky : s.fTxOverwrite = true → t.fTxOverwrite = true

theorem TxOnly.refl (s : State) : TxOnly s s := ⟨rfl, id, fun _ _ _ => rfl, id, id⟩

theorem TxOnly.trans {s t u : State} (h : TxOnly s t) (k : TxOnly t u) : TxOnly s u where
  rest := by rw [k.rest, h.rest]
  inside hs := by
    have h' : ∀ a, t.isBufferByte a = s.isBufferByte a := by rw [h.rest]; intro a; rfl
    simpa [h'] using k.inside (by simpa [h'] using h.inside hs)
  below hs a ha := (k.below (h.wf hs) a ha).trans (h.below hs a ha)
  wf := k.wf ∘ h.wf
  sticky := k.sticky ∘ h.sticky

theorem State.txPut_txOnly (s : State) (k : Nat) (v : Byte) : TxOnly s (s.txPut k v) := by
  unfold State.txPut
  split
  · rename_i hk
    refine ⟨rfl, fun hs c hc => ?_, fun hs a ha => ?_, fun hs => Memory.wf_write _ hs _ _,
      fun h => by simp [State.noteTxUse, h]⟩
    · rcases Memory.mem_write hc with ⟨rfl, _⟩ | hc
      · simp only [State.isBufferByte, Bool.or_eq_true, Bool.and_eq_true, decide_eq_true_eq]
        omega
      · exact hs c hc
    simp only [Memory.read_write _ hs]
    rw [if_neg (by omega)]
  · exact TxOnly.refl s

theorem State.txPuts_txOnly (s : State) (k : Nat) (vs : List Byte) : TxOnly s (s.txPuts k vs) := by
  induction vs generalizing s k with
  | nil => exact TxOnly.refl s
  | cons v vs ih => exact (State.txPut_txOnly s k v).trans (ih _ _)

theorem State.txOr_txOnly (s : State) (k : Nat) (v : Byte) : TxOnly s (s.txOr k v) := State.txPut_txOnly s k _

/-- What `txPuts` writes, when the bytes lie in the TX buffer. -/
theorem State.read_txPuts (vs : List Byte) (s : State) (hs : Memory.wf s.mem) (k : Nat)
    (hk : k + vs.length ≤ s.cfg.txBufSize) (a : Nat) :
    Memory.read (s.txPuts k vs).mem a =
      if txBase + k ≤ a ∧ a < txBase + k + vs.length then vs.getD (a - (txBase + k)) 0 else Memory.read s.mem a := by
  induction vs generalizing s k with
  | nil => simp [State.txPuts]
  | cons v vs ih =>
    simp only [List.length_cons] at hk ⊢
    have h1 := State.txPut_txOnly s k v
    have hcfg : (s.txPut k v).cfg = s.cfg := by rw [h1.rest]
    have hput : (s.txPut k v).mem = Memory.write s.mem (txBase + k) v := by
      unfold State.txPut; rw [if_pos (by omega)]
    simp only [State.txPuts]
    rw [ih _ (h1.wf hs) _ (by rw [hcfg]; omega), hput, Memory.read_write _ hs]
    by_cases ha : a = txBase + k
    · subst ha; simp
    · by_cases h : txBase + (k + 1) ≤ a ∧ a < txBase + (k + 1) + vs.length
      · rw [if_pos h, if_pos (by omega)]
        rw [show a - (txBase + k) = (a - (txBase + (k + 1))) + 1 by omega, List.getD_cons_succ]
      · rw [if_neg h, if_neg ha, if_neg (by omega)]

/-- The fault bit after writing at least one byte that exists (R231). -/
theorem State.fTxOverwrite_txPuts (v : Byte) (vs : List Byte) (s : State) (k : Nat)
    (hk : k + (vs.length + 1) ≤ s.cfg.txBufSize) :
    (s.txPuts k (v :: vs)).fTxOverwrite = (s.fTxOverwrite || s.txBusy) := by
  induction vs generalizing s k v with
  | nil => simp only [State.txPuts, State.txPut, if_pos (show k < s.cfg.txBufSize by omega), State.noteTxUse]
  | cons w ws ih =>
    simp only [List.length_cons] at hk
    have h1 := State.txPut_txOnly s k v
    have hcfg : (s.txPut k v).cfg = s.cfg := by rw [h1.rest]
    have hbusy : (s.txPut k v).txBusy = s.txBusy := by rw [h1.rest]; rfl
    have hf : (s.txPut k v).fTxOverwrite = (s.fTxOverwrite || s.txBusy) := by
      simp only [State.txPut, if_pos (show k < s.cfg.txBufSize by omega), State.noteTxUse]
    have := ih w (s.txPut k v) (k + 1) (by rw [hcfg]; omega)
    rw [show s.txPuts k (v :: w :: ws) = (s.txPut k v).txPuts (k + 1) (w :: ws) from rfl, this, hf, hbusy]
    cases s.fTxOverwrite <;> cases s.txBusy <;> rfl

theorem State.ethAcquire_txOnly (s : State) (et : Half) : TxOnly s (s.ethAcquire et) := by
  unfold State.ethAcquire
  split
  · exact TxOnly.refl s
  · exact State.txPuts_txOnly s _ _

theorem State.ipAcquire_txOnly (s : State) (d : Word) (p : Byte) : TxOnly s (s.ipAcquire d p) :=
  (State.ethAcquire_txOnly s _).trans (State.txPuts_txOnly _ _ _)

theorem State.ipFinish_txOnly (s : State) (n : Nat) : TxOnly s (s.ipFinish n) :=
  ((State.txPuts_txOnly s _ _).trans (State.txPuts_txOnly _ _ _)).trans (State.txPuts_txOnly _ _ _)

theorem State.tcpChecksum_txOnly (s : State) (n : Nat) : TxOnly s (s.tcpChecksum n) :=
  (State.txPuts_txOnly s _ _).trans (State.txPuts_txOnly _ _ _)

/-- `t` differs from `s` at most in what building and handing over a frame can change: the buffers (RXBUF
unchanged), F_TX_OVERWRITE, TX_PROTO, TX_LEN and the trace, which only grows; a busy buffer stays busy. -/
structure SendOnly (s t : State) : Prop where
  rest : t = { s with
    mem := t.mem, fTxOverwrite := t.fTxOverwrite, txProto := t.txProto, txLen := t.txLen, trace := t.trace }
  inside : (∀ c ∈ s.mem, s.isBufferByte c.1 = true) → ∀ c ∈ t.mem, s.isBufferByte c.1 = true
  below : Memory.wf s.mem → ∀ a < txBase, Memory.read t.mem a = Memory.read s.mem a
  wf : Memory.wf s.mem → Memory.wf t.mem
  sticky : s.fTxOverwrite = true → t.fTxOverwrite = true
  busy : s.txBusy = true → t.txBusy = true
  trace : s.trace <+: t.trace

theorem TxOnly.sendOnly {s t : State} (h : TxOnly s t) : SendOnly s t where
  rest := by rw [h.rest]
  inside := h.inside
  below := h.below
  wf := h.wf
  sticky := h.sticky
  busy hb := by rw [h.rest]; exact hb
  trace := by rw [h.rest]

theorem SendOnly.refl (s : State) : SendOnly s s := (TxOnly.refl s).sendOnly

theorem SendOnly.trans {s t u : State} (h : SendOnly s t) (k : SendOnly t u) : SendOnly s u where
  rest := by rw [k.rest, h.rest]
  inside hs := by
    have h' : ∀ a, t.isBufferByte a = s.isBufferByte a := by rw [h.rest]; intro a; rfl
    simpa [h'] using k.inside (by simpa [h'] using h.inside hs)
  below hs a ha := (k.below (h.wf hs) a ha).trans (h.below hs a ha)
  wf := k.wf ∘ h.wf
  sticky := k.sticky ∘ h.sticky
  busy := k.busy ∘ h.busy
  trace := h.trace.trans k.trace

theorem State.ethTransmit_sendOnly (s : State) (n : Nat) : SendOnly s (s.ethTransmit n) := by
  unfold State.ethTransmit
  split <;> rename_i hz
  · exact ⟨rfl, id, fun _ _ _ => rfl, id, id, id, List.prefix_append _ _⟩
  · refine ⟨rfl, id, fun _ _ _ => rfl, id, fun h => by simp [h], fun _ => ?_, List.prefix_append _ _⟩
    simpa [State.etherTypeZero, State.txBusy] using hz

theorem State.ipSend_sendOnly (s : State) (n : Nat) : SendOnly s (s.ipSend n) :=
  (State.ipFinish_txOnly s n).sendOnly.trans (State.ethTransmit_sendOnly _ _)

theorem State.arpReply_sendOnly (s : State) : SendOnly s s.arpReply :=
  ((State.ethAcquire_txOnly s _).trans (State.txPuts_txOnly _ _ _)).sendOnly.trans (State.ethTransmit_sendOnly _ _)

theorem State.arpHandle_sendOnly (s : State) (n : Nat) : SendOnly s (s.arpHandle n).2 := by
  unfold State.arpHandle
  split
  · exact SendOnly.refl s
  split
  · exact ⟨rfl, id, fun _ _ _ => rfl, id, id, id, List.prefix_append _ _⟩
  split
  · exact SendOnly.refl s
  split
  · exact SendOnly.refl s
  · exact State.arpReply_sendOnly s

theorem State.tcpSendFrame_sendOnly (s : State) (n : Nat) : SendOnly s (s.tcpSendFrame n) := by
  unfold State.tcpSendFrame
  refine SendOnly.trans ?_ (State.ipSend_sendOnly _ _)
  refine TxOnly.sendOnly (TxOnly.trans ?_ (State.tcpChecksum_txOnly _ _))
  split
  · exact State.txOr_txOnly s _ _
  · exact TxOnly.refl s

/-! ### The register files -/

@[simp] theorem State.conn_setConn_self (s : State) (i : Slot) (c : Conn) : (s.setConn i c).conn i = c := by
  simp [State.conn, State.setConn, Vector.get_eq_getElem]

theorem State.conn_setConn_ne (s : State) {i j : Slot} (c : Conn) (h : j ≠ i) : (s.setConn i c).conn j = s.conn j := by
  have h' : i.val ≠ j.val := fun e => h (Fin.ext e.symm)
  simp [State.conn, State.setConn, Vector.get_eq_getElem, h']

@[simp] theorem State.svc_setSvc_self (s : State) (j : Slot) (v : Svc) : (s.setSvc j v).svc j = v := by
  simp [State.svc, State.setSvc, Vector.get_eq_getElem]

theorem State.svc_setSvc_ne (s : State) {i j : Slot} (v : Svc) (h : j ≠ i) : (s.setSvc i v).svc j = s.svc j := by
  have h' : i.val ≠ j.val := fun e => h (Fin.ext e.symm)
  simp [State.svc, State.setSvc, Vector.get_eq_getElem, h']

theorem mem_allSlots (i : Slot) : i ∈ allSlots := by revert i; decide

/-- Everything `find` can answer (R605). -/
theorem State.find_some {s : State} {d p : Half} {i : Slot} (h : s.find d p = some i) :
    i.val < s.cfg.nConn ∧ (s.conn i).remoteIp ≠ 0 ∧ (s.conn i).localPort = d ∧ (s.conn i).remotePort = p := by
  have := List.find?_some h
  simp only [Bool.and_eq_true, State.connExists, Conn.free, decide_eq_true_eq, Bool.not_eq_true', beq_eq_false_iff_ne,
    beq_iff_eq, ne_eq] at this
  exact ⟨this.1.1.1, this.1.1.2, this.1.2, this.2⟩

/-- Everything `freeSlot` can answer (R610). -/
theorem State.freeSlot_some {s : State} {i : Slot} (h : s.freeSlot = some i) :
    i.val < s.cfg.nConn ∧ (s.conn i).remoteIp = 0 := by
  have := List.find?_some h
  simpa [State.connExists, Conn.free] using this

/-- Everything `findService` can answer (R611). -/
theorem State.findService_some {s : State} {d : Half} {j : Slot} (h : s.findService d = some j) :
    j.val < s.cfg.nServ ∧ (s.svc j).valid = true ∧ (s.svc j).port = d := by
  have := List.find?_some h
  simp only [Bool.and_eq_true, State.svcExists, decide_eq_true_eq, beq_iff_eq] at this
  exact ⟨this.1.1, this.1.2, this.2⟩

/-! ### Command errors -/

/-- Everything accepting a command can answer (R800, R801). -/
theorem State.command_cases (s : State) (checks : List (Bool × CmdError)) (run : State → State) :
    (∃ e, firstError checks = some e ∧ s.command checks run = .next (s.reject e)) ∨
      (firstError checks = none ∧ s.command checks run = .next (run s)) := by
  unfold State.command
  cases h : firstError checks with
  | some e => exact .inl ⟨e, rfl, rfl⟩
  | none => exact .inr ⟨rfl, rfl⟩

theorem firstError_none {checks : List (Bool × CmdError)} (h : firstError checks = none) :
    ∀ c ∈ checks, c.1 = false := by
  induction checks with
  | nil => simp
  | cons c cs ih =>
    obtain ⟨b, e⟩ := c
    cases b with
    | true => simp [firstError] at h
    | false => simpa using fun b' e' hc => ih (by simpa [firstError] using h) (b', e') hc

end Sys2Proof.Machine
end

