-- ==== Sys2Proof/Laws/Invariant.lean ====
section
/-! SUPPORT. The shared operations and the packet handlers keep the state invariant `State.Inv`: one lemma for each,
for the proofs about `exec` and `step` to cite. -/
namespace Sys2Proof.Machine

theorem State.Inv.of_sendOnly {s t : State} (h : s.Inv) (k : SendOnly s t)
    (hl : t.txLen.toNat ≤ s.cfg.txBufSize) : t.Inv := by
  have hm := k.inside h.memInBuffers
  have hw := k.wf h.memCanonical
  have hr := k.rest
  generalize t.mem = m, t.fTxOverwrite = f, t.txProto = p, t.txLen = l, t.trace = tr at *
  subst hr
  exact { h with memCanonical := hw, memInBuffers := hm, txFits := hl }

theorem State.Inv.of_txOnly {s t : State} (h : s.Inv) (k : TxOnly s t) : t.Inv :=
  h.of_sendOnly k.sendOnly (by rw [k.rest]; exact h.txFits)

theorem State.Inv.ethTransmit {s : State} (h : s.Inv) (n : Nat) (hn : 14 + n ≤ s.cfg.txBufSize) :
    (s.ethTransmit n).Inv := by
  apply h.of_sendOnly (State.ethTransmit_sendOnly s n)
  unfold State.ethTransmit
  split
  · exact h.txFits
  · have := h.cfgOk
    simp only [State.handOver_txLen, BitVec.toNat_ofNat, ethHeader]
    omega

theorem TxOnly.cfg {s t : State} (k : TxOnly s t) : t.cfg = s.cfg := by rw [k.rest]

theorem State.Inv.ipSend {s : State} (h : s.Inv) (n : Nat) (hn : 34 + n ≤ s.cfg.txBufSize) : (s.ipSend n).Inv := by
  have k := State.ipFinish_txOnly s n
  exact (h.of_txOnly k).ethTransmit _ (by rw [k.cfg]; simp [ipHeader]; omega)

theorem State.Inv.tcpSendFrame {s : State} (h : s.Inv) (n : Nat) (hn : 54 + n ≤ s.cfg.txBufSize) :
    (s.tcpSendFrame n).Inv := by
  unfold State.tcpSendFrame
  have k : TxOnly s ((if 0 < n then s.txOr 47 tcpPsh else s).tcpChecksum (tcpHeader + n)) := by
    refine TxOnly.trans ?_ (State.tcpChecksum_txOnly _ _)
    split
    · exact State.txOr_txOnly s _ _
    · exact TxOnly.refl s
  exact (h.of_txOnly k).ipSend _ (by rw [k.cfg]; simp [tcpHeader]; omega)

theorem State.Inv.setConn {s : State} (h : s.Inv) (i : Slot) (c : Conn) (hi : i.val < s.cfg.nConn)
    (h1 : c.remoteIp ≠ 0 → c.state ≠ .closed) (h2 : c.replyPending = true → c.remoteIp ≠ 0)
    (h3 : c.svc.val < s.cfg.nServ) : (s.setConn i c).Inv := by
  have hc : ∀ j, (s.setConn i c).conn j = if j = i then c else s.conn j := by
    intro j
    by_cases e : j = i
    · subst e; simp
    · rw [State.conn_setConn_ne _ _ e, if_neg e]
  refine { h with boundNotClosed := ?_, pendingBound := ?_, connService := ?_, connBeyond := ?_ }
  · intro j; rw [hc]; split
    · exact h1
    · exact h.boundNotClosed j
  · intro j; rw [hc]; split
    · exact h2
    · exact h.pendingBound j
  · intro j; rw [hc]; split
    · exact h3
    · exact h.connService j
  · intro j hj; rw [hc]; split
    · rename_i e; subst e; simp at hj; omega
    · exact h.connBeyond j hj

/-- The invariant of `s` but for a pending reply of slot `i`, which a send is about to clear. -/
def InvP (i : Slot) (s : State) : Prop := (s.setConn i { s.conn i with replyPending := false }).Inv

theorem State.Inv.toP {s : State} (h : s.Inv) (i : Slot) (hi : i.val < s.cfg.nConn) : InvP i s :=
  h.setConn i _ hi (h.boundNotClosed i) (by simp) (h.connService i)

theorem TxOnly.setConn {s t : State} (k : TxOnly s t) (i : Slot) (c : Conn) : TxOnly (s.setConn i c) (t.setConn i c) where
  rest := by rw [k.rest]; rfl
  inside := k.inside
  below := k.below
  wf := k.wf
  sticky := k.sticky

theorem TxOnly.conn {s t : State} (k : TxOnly s t) (i : Slot) : t.conn i = s.conn i := by rw [k.rest]; rfl
theorem SendOnly.conn {s t : State} (k : SendOnly s t) (i : Slot) : t.conn i = s.conn i := by rw [k.rest]; rfl

theorem InvP.txOnly {i : Slot} {s t : State} (h : InvP i s) (k : TxOnly s t) : InvP i t := by
  unfold InvP at *
  rw [k.conn]
  exact State.Inv.of_txOnly h (k.setConn i _)

@[simp] theorem State.setConn_setConn (s : State) (i : Slot) (c d : Conn) : (s.setConn i c).setConn i d = s.setConn i d := by
  simp [State.setConn]

theorem InvP.tcpAcquire {i : Slot} {s : State} (h : InvP i s) : InvP i (s.tcpAcquire i) := by
  unfold State.tcpAcquire
  split
  · exact h
  · unfold State.buildReply
    have := h.txOnly ((State.ipAcquire_txOnly s (s.conn i).remoteIp protoTcp).trans (State.txPuts_txOnly _ 34
      (tcpHeaderBytes (s.conn i).localPort (s.conn i).remotePort (s.conn i).localSeq (s.conn i).remoteSeq tcpAck s.cfg.tcpWindow)))
    have hcn := ((State.ipAcquire_txOnly s (s.conn i).remoteIp protoTcp).trans (State.txPuts_txOnly _ 34
      (tcpHeaderBytes (s.conn i).localPort (s.conn i).remotePort (s.conn i).localSeq (s.conn i).remoteSeq tcpAck s.cfg.tcpWindow))).conn i
    unfold InvP at this ⊢
    rw [hcn] at this
    simpa using this

theorem InvP.setTcpState {i : Slot} {s : State} (h : InvP i s) (hi : i.val < s.cfg.nConn) (st : TcpState) (hst : st ≠ .closed) :
    InvP i (s.setTcpState i st) := by
  unfold InvP State.setTcpState at *
  have := h.setConn i { s.conn i with replyPending := false, state := st } hi (fun _ => hst) (by simp) (by simpa using h.connService i)
  simpa using this

/-- commuting setConn past the frame -/
theorem State.tcpSendFrame_setConn (s : State) (n : Nat) (i : Slot) (c : Conn) :
    (s.setConn i c).tcpSendFrame n = (s.tcpSendFrame n).setConn i c := by
  have put : ∀ (vs : List Byte) (s : State) (k : Nat), (s.setConn i c).txPuts k vs = (s.txPuts k vs).setConn i c := by
    intro vs
    induction vs with
    | nil => intros; rfl
    | cons v vs ih =>
      intro s k
      have : (s.setConn i c).txPut k v = (s.txPut k v).setConn i c := by
        unfold State.txPut; split <;> rename_i h
        · rw [if_pos (by simpa using h)]; rfl
        · rw [if_neg (by simpa using h)]
      simp only [State.txPuts, this, ih]
  have eth : ∀ (s : State) n, (s.setConn i c).ethTransmit n = (s.ethTransmit n).setConn i c := by
    intro s n; unfold State.ethTransmit; split <;> rename_i h
    · rw [if_pos (by simpa [State.etherTypeZero, State.tx16] using h)]; rfl
    · rw [if_neg (by simpa [State.etherTypeZero, State.tx16] using h)]; rfl
  have ips : ∀ (s : State) n, (s.setConn i c).ipSend n = (s.ipSend n).setConn i c := by
    intro s n
    simp only [State.ipSend, State.ipFinish, put, State.checksum, State.setConn_mem, eth]
  have tcs : ∀ (s : State) n, (s.setConn i c).tcpChecksum n = (s.tcpChecksum n).setConn i c := by
    intro s n
    simp only [State.tcpChecksum, put, State.checksum, State.setConn_mem, State.pseudoHeaderSeed, State.tx32]
  unfold State.tcpSendFrame
  split
  · have : (s.setConn i c).txOr 47 tcpPsh = (s.txOr 47 tcpPsh).setConn i c := by
      have := put [s.tx8 47 ||| tcpPsh] s 47
      simpa [State.txPuts, State.txOr, State.tx8] using this
    rw [this, tcs, ips]
  · rw [tcs, ips]

theorem InvP.tcpSend {i : Slot} {s : State} (h : InvP i s) (hi : i.val < s.cfg.nConn) (n : Nat) (hn : 54 + n ≤ s.cfg.txBufSize) : (s.tcpSend i n).Inv := by
  have := State.Inv.tcpSendFrame h n hn
  rw [State.tcpSendFrame_setConn] at this
  have hf := State.tcpSendFrame_sendOnly s n
  have hcf : (s.tcpSendFrame n).cfg = s.cfg := by rw [hf.rest]
  have h2 := State.Inv.setConn this i { s.conn i with localSeq := (s.conn i).localSeq + BitVec.ofNat 32 n, replyPending := false }
    (by simpa [hcf] using hi) (by simpa using h.boundNotClosed i) (by simp) (by simpa [hcf] using h.connService i)
  simpa [State.tcpSend] using h2

theorem State.Inv.complete {s : State} (h : s.Inv) (r : Word) : (s.complete r).Inv := { h with }
theorem State.Inv.emit {s : State} (h : s.Inv) (e : Event) : (s.emit e).Inv := { h with }
theorem State.Inv.rearm {s : State} (h : s.Inv) : s.rearm.Inv := { h with rxHandOff := by simp, rxFits := by simp }
theorem State.Inv.finish {s : State} (h : s.Inv) (t : Tail) : (s.finish t).Inv := by
  cases t
  · exact h.rearm.complete _
  · exact h.complete _
theorem State.Inv.reject {s : State} (h : s.Inv) (e : CmdError) : (s.reject e).Inv := { h with }

theorem InvP.toInv {i : Slot} {s : State} (h : InvP i s) (hp : (s.conn i).replyPending = true → (s.conn i).remoteIp ≠ 0) (hi : i.val < s.cfg.nConn) : s.Inv := by
  unfold InvP at h
  have := h.setConn i (s.conn i) hi (by simpa using h.boundNotClosed i) hp (by simpa using h.connService i)
  have e : s.setConn i (s.conn i) = s := by simp [State.setConn, State.conn, Vector.get_eq_getElem]
  simpa [e] using this

theorem State.Inv.setSeqHold {s : State} (h : s.Inv) (hs : s.seq = .idle) (k : HoldK) (hk : ∀ i, k.slot = some i → i.val < s.cfg.nConn) :
    State.Inv { s with seq := .hold k } :=
  { h with
    kindOfCallback := by simpa [hs, Sequencer.callback] using h.kindOfCallback
    connOfCallback := by simp [Sequencer.callback]
    slotsExist := hk }

theorem State.Inv.raise {s : State} (h : s.Inv) (k : CallbackK) (kind : CbKind) (i j : Slot) (a n : Nat) (hk : kind = k.kind) (hi : i = k.slot) (hn : i.val < s.cfg.nConn) :
    (s.raiseCallback kind i j a n k).Inv :=
  { h with
    kindOfCallback := by simp [Sequencer.callback, hk]
    connOfCallback := by simp [Sequencer.callback, hi]
    slotsExist := by subst hi; exact hn }

theorem State.Inv.holdThen {s : State} (h : s.Inv) (hs : s.seq = .idle) (k : HoldK) (hk : ∀ i, k.slot = some i → i.val < s.cfg.nConn)
    (f : State → State) (hf : (f s).Inv) : (s.holdThen k f).Inv := by
  unfold State.holdThen
  split
  · exact h.setSeqHold hs k hk
  · exact hf

theorem State.tcpAcquire_seq (s : State) (i : Slot) : (s.tcpAcquire i).seq = s.seq := by
  unfold State.tcpAcquire; split
  · rfl
  · unfold State.buildReply
    rw [State.setConn_seq, ((State.ipAcquire_txOnly _ _ _).trans (State.txPuts_txOnly _ _ _)).rest]
theorem State.tcpAcquire_cfg (s : State) (i : Slot) : (s.tcpAcquire i).cfg = s.cfg := by
  unfold State.tcpAcquire; split
  · rfl
  · unfold State.buildReply
    rw [State.setConn_cfg, ((State.ipAcquire_txOnly _ _ _).trans (State.txPuts_txOnly _ _ _)).rest]
theorem State.tcpSend_seq (s : State) (i : Slot) (n) : (s.tcpSend i n).seq = s.seq := by
  simp only [State.tcpSend, State.setConn_seq]; rw [(State.tcpSendFrame_sendOnly s n).rest]
theorem State.tcpSend_cfg (s : State) (i : Slot) (n) : (s.tcpSend i n).cfg = s.cfg := by
  simp only [State.tcpSend, State.setConn_cfg]; rw [(State.tcpSendFrame_sendOnly s n).rest]
theorem State.tcpSend_state (s : State) (i : Slot) (n) : ((s.tcpSend i n).conn i).state = (s.conn i).state := by
  simp [State.tcpSend]
theorem State.txOr_cfg (s : State) (k v) : (s.txOr k v).cfg = s.cfg := by rw [(State.txOr_txOnly s k v).rest]
theorem State.txOr_seq (s : State) (k v) : (s.txOr k v).seq = s.seq := by rw [(State.txOr_txOnly s k v).rest]

variable {s : State} {i : Slot} {t : Tail} {g : Segment}

theorem State.Inv.minTxBuf (h : s.Inv) : 54 ≤ s.cfg.txBufSize := by have := h.cfgOk; omega

theorem State.Inv.acqSend (h : s.Inv) (hi : i.val < s.cfg.nConn) : ((s.tcpAcquire i).tcpSend i 0).Inv :=
  ((h.toP i hi).tcpAcquire).tcpSend (by simpa [State.tcpAcquire_cfg] using hi) 0 (by rw [State.tcpAcquire_cfg]; simpa using State.Inv.minTxBuf h)
theorem State.Inv.acqOrSend (h : s.Inv) (hi : i.val < s.cfg.nConn) (v) : (((s.tcpAcquire i).txOr 47 v).tcpSend i 0).Inv :=
  (((h.toP i hi).tcpAcquire).txOnly (State.txOr_txOnly _ _ _)).tcpSend (by simpa [State.tcpAcquire_cfg, State.txOr_cfg] using hi) 0 (by rw [State.txOr_cfg, State.tcpAcquire_cfg]; simpa using State.Inv.minTxBuf h)

theorem State.Inv.setTcpState (h : s.Inv) (hi : i.val < s.cfg.nConn) (st : TcpState) (hst : st ≠ .closed) : (s.setTcpState i st).Inv :=
  h.setConn i _ hi (fun _ => hst) (h.pendingBound i) (h.connService i)

theorem State.Inv.rstBody (h : s.Inv) : (s.rstBody t g).Inv := by
  unfold State.rstBody
  have k := ((State.ipAcquire_txOnly s g.srcIp protoTcp).trans (State.txPuts_txOnly _ 34 (tcpHeaderBytes g.dport g.sport 0 (g.sseq + 1) (tcpRst ||| tcpAck) 0))).trans (State.tcpChecksum_txOnly _ tcpHeader)
  exact ((h.of_txOnly k).ipSend _ (by rw [k.cfg]; have := State.Inv.minTxBuf h; simpa [tcpHeader] using this)).finish t

theorem State.Inv.sendRst (h : s.Inv) (hs : s.seq = .idle) : (s.sendRst t g).Inv :=
  h.holdThen hs _ (by simp [HoldK.slot]) _ (State.Inv.rstBody h)

theorem State.Inv.bind (h : s.Inv) (hi : i.val < s.cfg.nConn) : (s.setConn i ((s.conn i).bind s.cfg.iss g)).Inv :=
  h.setConn i _ hi (by simp [Conn.bind]) (by simp [Conn.bind]) (h.connService i)

theorem State.Inv.accept (h : s.Inv) (hs : s.seq = .idle) : (s.accept t g).Inv := by
  unfold State.accept
  split
  · exact State.Inv.sendRst h hs
  · rename_i f hf
    have hf' := (State.freeSlot_some hf).1
    split
    · apply State.Inv.sendRst
      · exact h.setConn f _ hf' (by simp [Conn.release]) (by simp [Conn.release]) (by simpa [Conn.release, Conn.bind] using h.connService f)
      · simpa using hs
    · rename_i j hj
      exact (h.setConn f _ hf' (by simp [Conn.bind]) (by simp [Conn.bind]) (State.findService_some hj).1).raise _ _ _ _ _ _ rfl rfl (by simpa using hf')

theorem State.Inv.synAckBody (h : s.Inv) (hi : i.val < s.cfg.nConn) : (s.synAckBody t i).Inv := (h.acqOrSend hi _).finish t

theorem State.Inv.afterAccept (h : s.Inv) (hs : s.seq = .idle) (hi : i.val < s.cfg.nConn) : (s.afterAccept t g i).Inv :=
  h.holdThen hs _ (by simp [HoldK.slot, hi]) _ (State.Inv.synAckBody h hi)

theorem State.Inv.rxSyn (h : s.Inv) (hi : i.val < s.cfg.nConn) : (s.rxSynReceived t g i).Inv := by
  unfold State.rxSynReceived
  split
  · exact (h.setConn i { s.conn i with localSeq := g.sack, state := .established } hi (by simp) (h.pendingBound i) (h.connService i)).finish t
  · exact h.finish t

theorem State.Inv.takeAck (h : s.Inv) (hi : i.val < s.cfg.nConn) : (s.setConn i ((s.conn i).takeAck g)).Inv := by
  have e : ((s.conn i).takeAck g).remoteIp = (s.conn i).remoteIp ∧ ((s.conn i).takeAck g).state = (s.conn i).state ∧
    ((s.conn i).takeAck g).replyPending = (s.conn i).replyPending ∧ ((s.conn i).takeAck g).svc = (s.conn i).svc := by
    unfold Conn.takeAck; split <;> simp
  exact h.setConn i _ hi (by rw [e.1, e.2.1]; exact h.boundNotClosed i) (by rw [e.1, e.2.2.1]; exact h.pendingBound i) (by rw [e.2.2.2]; exact h.connService i)

theorem State.Inv.adv (h : s.Inv) (hi : i.val < s.cfg.nConn) : (s.setConn i ((s.conn i).advanceRemote g)).Inv :=
  h.setConn i _ hi (h.boundNotClosed i) (h.pendingBound i) (h.connService i)

theorem State.Inv.estReply (h : s.Inv) (hs : s.seq = .idle) (hi : i.val < s.cfg.nConn) : (s.estReplyBody t g i).Inv := by
  unfold State.estReplyBody
  simp only
  have key : ∀ b : State, (b.tcpSend i 0).Inv → b.seq = .idle → b.cfg = s.cfg →
      ((b.tcpSend i 0).holdThen (.estDone t g i) fun s => s.estDoneBody t).Inv := by
    intro b hb hbs hbc
    refine hb.holdThen (by rw [State.tcpSend_seq, hbs]) _ (by simp [HoldK.slot, State.tcpSend_cfg, hbc, hi]) _ (hb.finish t)
  apply key
  · split
    · exact (((((h.toP i hi).tcpAcquire).txOnly (State.txOr_txOnly _ 47 tcpFin))).setTcpState (by simpa [State.tcpAcquire_cfg, State.txOr_cfg] using hi) .closeWait (by simp)).tcpSend
        (by simpa [State.setTcpState, State.tcpAcquire_cfg, State.txOr_cfg] using hi) 0 (by simpa [State.setTcpState, State.tcpAcquire_cfg, State.txOr_cfg] using State.Inv.minTxBuf h)
    · exact h.acqSend hi
  · split
    · simp [State.setTcpState, State.txOr_seq, State.tcpAcquire_seq, hs]
    · rw [State.tcpAcquire_seq, hs]
  · split
    · simp [State.setTcpState, State.txOr_cfg, State.tcpAcquire_cfg]
    · rw [State.tcpAcquire_cfg]

theorem State.Inv.afterProcess (h : s.Inv) (hs : s.seq = .idle) (hi : i.val < s.cfg.nConn) : (s.afterProcess t g i).Inv :=
  h.holdThen hs _ (by simp [HoldK.slot, hi]) _ (State.Inv.estReply h hs hi)

theorem State.Inv.rxEst (h : s.Inv) (hs : s.seq = .idle) (hi : i.val < s.cfg.nConn) : (s.rxEstablished t g i).Inv := by
  unfold State.rxEstablished
  simp only
  have ha := State.Inv.takeAck (g := g) h hi
  split
  · exact (State.Inv.adv ha (by simpa using hi)).raise _ _ _ _ _ _ rfl rfl (by simpa using hi)
  · split
    · exact State.Inv.afterProcess (State.Inv.adv ha (by simpa using hi)) (by simpa using hs) (by simpa using hi)
    · exact ha.finish t

theorem State.Inv.finDone (h : s.Inv) (hi : i.val < s.cfg.nConn) : (s.finDoneBody t i).Inv := (h.setTcpState hi _ (by simp)).finish t

theorem State.Inv.finReply (h : s.Inv) (hs : s.seq = .idle) (hi : i.val < s.cfg.nConn) : (s.finReplyBody t g i).Inv :=
  (h.acqSend hi).holdThen (by rw [State.tcpSend_seq, State.tcpAcquire_seq, hs]) _ (by simp [HoldK.slot, State.tcpSend_cfg, State.tcpAcquire_cfg, hi]) _
    (State.Inv.finDone (h.acqSend hi) (by simpa [State.tcpSend_cfg, State.tcpAcquire_cfg] using hi))

theorem State.Inv.rxFin (h : s.Inv) (hs : s.seq = .idle) (hi : i.val < s.cfg.nConn) : (s.rxFinWait1 t g i).Inv := by
  unfold State.rxFinWait1
  simp only
  have ha := State.Inv.takeAck (g := g) h hi
  split
  · have hb := State.Inv.adv (g := g) ha (by simpa using hi)
    exact hb.holdThen (by simpa using hs) _ (by simp [HoldK.slot, hi]) _ (State.Inv.finReply hb (by simpa using hs) (by simpa using hi))
  · split
    · exact (ha.setTcpState (by simpa using hi) _ (by simp)).finish t
    · exact ha.finish t

theorem State.Inv.rxPassive (h : s.Inv) (hi : i.val < s.cfg.nConn) : (s.rxPassiveClose t g i).Inv := by
  unfold State.rxPassiveClose
  split
  · exact h.raise _ _ _ _ _ _ rfl rfl hi
  · exact h.finish t

theorem State.Inv.afterClosed (h : s.Inv) (hi : i.val < s.cfg.nConn) : (s.afterClosed t i).Inv :=
  (h.setConn i (s.conn i).release hi (by simp [Conn.release]) (by simp [Conn.release]) (h.connService i)).finish t

theorem State.Inv.tcpReceive (h : s.Inv) (hs : s.seq = .idle) (n) : (s.tcpReceive t n).Inv := by
  unfold State.tcpReceive
  split
  · exact h.finish t
  · unfold State.rxSegment
    split
    · rename_i i hi
      have hi := (State.find_some hi).1
      unfold State.rxMatched
      split
      · exact h.finish t
      · exact State.Inv.rxSyn h hi
      · exact State.Inv.rxEst h hs hi
      · exact State.Inv.rxFin h hs hi
      · exact State.Inv.rxPassive h hi
      · exact State.Inv.rxPassive h hi
    · split
      · exact State.Inv.accept h hs
      · exact h.finish t

theorem State.Inv.ipReceive (h : s.Inv) (hs : s.seq = .idle) (n) : (s.ipReceive t n).Inv := by
  unfold State.ipReceive
  split; · exact h.finish t
  split; · exact (h.emit _).finish t
  split; · exact State.Inv.tcpReceive h hs _
  split; · exact h.raise (.udp t) _ _ _ _ _ rfl rfl (by have := h.cfgOk; simp; omega)
  · exact (h.emit _).finish t

theorem State.Inv.arpHandle (h : s.Inv) (n) : (s.arpHandle n).2.Inv := by
  unfold State.arpHandle
  split; · exact h
  split; · exact h.emit _
  split; · exact h
  split; · exact h
  · have k := (State.ethAcquire_txOnly s etherTypeArp).trans (State.txPuts_txOnly _ ethHeader
      (arpReplyBytes s.mac s.cfg.localIp (Memory.bytes s.mem (rxBase + 22) 6) (Memory.bytes s.mem (rxBase + 28) 4)))
    exact (h.of_txOnly k).ethTransmit _ (by rw [k.cfg]; have := State.Inv.minTxBuf h; simp [arpPacket]; omega)

theorem State.Inv.ethDispatch (h : s.Inv) (hs : s.seq = .idle) (n) : (s.ethDispatch t n).Inv := by
  unfold State.ethDispatch
  split; · exact h.finish t
  split; · exact State.Inv.ipReceive h hs _
  split; · exact (State.Inv.arpHandle h _).finish t
  · exact (h.emit _).finish t

theorem State.Inv.command (h : s.Inv) (cs) (f : State → State) (hf : firstError cs = none → (f s).Inv) {u} (hu : s.command cs f = .next u) : u.Inv := by
  rcases State.command_cases s cs f with ⟨e, _, he⟩ | ⟨h0, he⟩
  · rw [he] at hu; cases hu; exact h.reject e
  · rw [he] at hu; cases hu; exact hf h0

theorem State.Inv.init (h : s.Inv) (hs : s.seq = .idle) : s.initialise.Inv where
  cfgOk := h.cfgOk
  memCanonical := by simp [State.initialise, Memory.wf]
  memInBuffers := by simp [State.initialise]
  macConstant := rfl
  rxHandOff := h.rxHandOff
  rxFits := h.rxFits
  txFits := by simp [State.initialise]
  boundNotClosed := by intro i; simp [State.initialise, State.conn, Vector.get_eq_getElem, Conn.zero]
  pendingBound := by intro i; simp [State.initialise, State.conn, Vector.get_eq_getElem, Conn.zero]
  connService := by intro i; have := h.cfgOk; simp [State.initialise, State.conn, Vector.get_eq_getElem, Conn.zero]; omega
  connBeyond := by intro i _; simp [State.initialise, State.conn, Vector.get_eq_getElem]
  svcBeyond := by intro i _; simp [State.initialise, State.svc, Vector.get_eq_getElem]
  kindOfCallback := by simp [State.initialise, hs, Sequencer.callback]
  connOfCallback := by simp [State.initialise, hs, Sequencer.callback]
  slotsExist := by simp [State.initialise, hs, Sequencer.slotsExist]

theorem State.seq_idle_of (hb : s.isHeld = false) (hc : s.inCallback = false) : s.seq = .idle := by
  unfold State.isHeld State.inCallback at *
  cases h : s.seq <;> simp_all [Sequencer.code]

theorem State.outerChecks_idle {cs} (h : firstError (s.outerChecks ++ cs) = none) : s.seq = .idle := by
  have := firstError_none h
  exact State.seq_idle_of (this (s.isHeld, .busy) (by simp [State.outerChecks])) (this (s.inCallback, .reentrant) (by simp [State.outerChecks]))

theorem State.Inv.closeBody (h : s.Inv) (hi : i.val < s.cfg.nConn) : (s.tcpCloseBody i).Inv :=
  ((h.acqOrSend hi _).setTcpState (by simpa [State.tcpSend_cfg, State.txOr_cfg, State.tcpAcquire_cfg] using hi) _ (by simp)).complete _

theorem State.Inv.runHold (h : s.Inv) (k : CommandHold) (hk : ∀ i, (HoldK.command k).slot = some i → i.val < s.cfg.nConn) : (s.runCommandHold k).Inv := by
  cases k with
  | tcpWait i => exact h.complete _
  | tcpClose i => exact State.Inv.closeBody h (hk i rfl)

theorem State.Inv.commandHold (h : s.Inv) (hb : s.isHeld = false) (k : CommandHold) (hk : ∀ i, (HoldK.command k).slot = some i → i.val < s.cfg.nConn) :
    (s.commandHold k fun s => s.runCommandHold k).Inv := by
  unfold State.commandHold
  split
  · cases hq : s.seq with
    | idle => simp only [Sequencer.suspend]; exact h.setSeqHold hq _ hk
    | cbWait o =>
      have h1 := h.kindOfCallback
      have h2 := h.connOfCallback
      have h3 := h.slotsExist
      rw [hq] at h1 h2 h3
      exact { h with kindOfCallback := h1, connOfCallback := h2, slotsExist := ⟨h3, hk⟩ }
    | hold o => simp [State.isHeld, hq, Sequencer.code] at hb
    | cbHold o k => simp [State.isHeld, hq, Sequencer.code] at hb
  · exact State.Inv.runHold h k hk

theorem State.Inv.resumeCallback (h : s.Inv) (hs : s.seq = .idle) (k : CallbackK) (hk : k.slot.val < s.cfg.nConn) : (s.resumeCallback k).Inv := by
  cases k with
  | more => exact h.complete _
  | udp t => exact h.finish t
  | accept t g i => exact State.Inv.afterAccept h hs hk
  | process t g i => exact State.Inv.afterProcess h hs hk
  | closed t g i => exact State.Inv.afterClosed h hk

theorem State.Inv.callbackReturn (h : s.Inv) (v) : (s.callbackReturn v).Inv :=
  { h with kindOfCallback := by simp [Sequencer.callback], connOfCallback := by simp [Sequencer.callback], slotsExist := trivial }

end Sys2Proof.Machine
end

