-- ==== Sys2Proof/Laws/PerInstr.lean ====
section
/-! SUPPORT. Statements about every command as syntax, one lemma per constructor. -/
namespace Sys2Proof.Laws

/-- R301, R303, R305: the word of a command has RSV = 0 and an OPC of the opcode map. -/
def RsvZero.Statement (i : Instr) : Prop :=
  (encode i).extractLsb' 12 4 = 0 ∧ opcField (encode i) ∈ Sys2Proof.Machine.legalOpcodes

/-- The fields of a word built by R301. -/
theorem commandWord_fields (opc : Byte) (cidx : Slot) (imm : Half) :
    (commandWord opc cidx imm).extractLsb' 12 4 = 0 ∧ opcField (commandWord opc cidx imm) = opc := by
  have bit (k : Nat) : (commandWord opc cidx imm).getLsbD k =
      if k < 16 then if k < 8 then opc.getLsbD k else if k < 12 then (BitVec.ofFin cidx : BitVec 4).getLsbD (k - 8)
        else false
      else imm.getLsbD (k - 16) := by
    rw [show (commandWord opc cidx imm).getLsbD k = _ from
        BitVec.getLsbD_append (x := imm) (y := (0#4 ++ (BitVec.ofFin cidx : BitVec 4) ++ opc)),
      show (0#4 ++ (BitVec.ofFin cidx : BitVec 4) ++ opc).getLsbD k = _ from
        BitVec.getLsbD_append (x := (0#4 ++ (BitVec.ofFin cidx : BitVec 4))) (y := opc),
      show (0#4 ++ (BitVec.ofFin cidx : BitVec 4)).getLsbD (k - 8) = _ from
        BitVec.getLsbD_append (x := 0#4) (y := (BitVec.ofFin cidx : BitVec 4))]
    grind
  constructor
  · apply BitVec.eq_of_getLsbD_eq
    intro k hk
    rw [BitVec.getLsbD_extractLsb', bit]
    grind
  · apply BitVec.eq_of_getLsbD_eq
    intro k hk
    rw [opcField, BitVec.getLsbD_extractLsb', bit]
    grind

/-- A word built by R301 with a legal OPC. -/
theorem RsvZero.of_opcode (opc : Byte) (cidx : Slot) (imm : Half) (h : opc ∈ Sys2Proof.Machine.legalOpcodes) :
    (commandWord opc cidx imm).extractLsb' 12 4 = 0 ∧
      opcField (commandWord opc cidx imm) ∈ Sys2Proof.Machine.legalOpcodes :=
  ⟨(commandWord_fields opc cidx imm).1, by rwa [(commandWord_fields opc cidx imm).2]⟩

theorem RsvZero.init : RsvZero.Statement .init := RsvZero.of_opcode _ _ _ (by decide)
theorem RsvZero.poll : RsvZero.Statement .poll := RsvZero.of_opcode _ _ _ (by decide)
theorem RsvZero.ethAcq (et : Half) : RsvZero.Statement (.ethAcq et) := RsvZero.of_opcode _ _ _ (by decide)
theorem RsvZero.ethTx (n : Half) : RsvZero.Statement (.ethTx n) := RsvZero.of_opcode _ _ _ (by decide)
theorem RsvZero.setMore (b : Bool) : RsvZero.Statement (.setMore b) := RsvZero.of_opcode _ _ _ (by decide)
theorem RsvZero.ethRx (n : Half) : RsvZero.Statement (.ethRx n) := RsvZero.of_opcode _ _ _ (by decide)
theorem RsvZero.arpRx (n : Half) : RsvZero.Statement (.arpRx n) := RsvZero.of_opcode _ _ _ (by decide)
theorem RsvZero.csum (n : Half) : RsvZero.Statement (.csum n) := RsvZero.of_opcode _ _ _ (by decide)
theorem RsvZero.ipRx (n : Half) : RsvZero.Statement (.ipRx n) := RsvZero.of_opcode _ _ _ (by decide)
theorem RsvZero.ipAcq (p : Byte) : RsvZero.Statement (.ipAcq p) := RsvZero.of_opcode _ _ _ (by decide)
theorem RsvZero.ipTx (n : Half) : RsvZero.Statement (.ipTx n) := RsvZero.of_opcode _ _ _ (by decide)
theorem RsvZero.tcpRx (n : Half) : RsvZero.Statement (.tcpRx n) := RsvZero.of_opcode _ _ _ (by decide)
theorem RsvZero.tcpFind : RsvZero.Statement .tcpFind := RsvZero.of_opcode _ _ _ (by decide)
theorem RsvZero.tcpAcq (i : Slot) : RsvZero.Statement (.tcpAcq i) := RsvZero.of_opcode _ _ _ (by decide)
theorem RsvZero.tcpTx (i : Slot) (n : Half) : RsvZero.Statement (.tcpTx i n) := RsvZero.of_opcode _ _ _ (by decide)
theorem RsvZero.tcpWait (i : Slot) : RsvZero.Statement (.tcpWait i) := RsvZero.of_opcode _ _ _ (by decide)
theorem RsvZero.tcpClose (i : Slot) : RsvZero.Statement (.tcpClose i) := RsvZero.of_opcode _ _ _ (by decide)
theorem RsvZero.svcReg (j : Slot) (port : Half) : RsvZero.Statement (.svcReg j port) := RsvZero.of_opcode _ _ _ (by decide)
theorem RsvZero.cbRet (v : Half) : RsvZero.Statement (.cbRet v) := RsvZero.of_opcode _ _ _ (by decide)

end Sys2Proof.Laws
end

