-- ==== Sys2Proof/Tests/Slice0.lean ====
section
/-! SUPPORT. Tests of the model on fixed values: the well-formedness smoke test, the words of
spec/95_test_vectors.md section 2, one-step vectors of its sections 3 and 4, and, for each statement that has
hypotheses, a witness of them. -/
namespace Sys2Proof.Tests
set_option Elab.async false
open Sys2Proof.Machine

/-! ## Fixtures -/

/-- Bytes in RXBUF. -/
def rx (bytes : List Nat) : Memory := Memory.writeBytes [] 0x4000 (bytes.map (BitVec.ofNat 8))

/-- Bytes in a memory from an address on. -/
def put (m : Memory) (a : Nat) (bytes : List Nat) : Memory := Memory.writeBytes m a (bytes.map (BitVec.ofNat 8))

/-- The TX buffer's bytes from an offset on, as numbers. -/
def tx (s : State) (k n : Nat) : List Nat := (Memory.bytes s.mem (0x8000 + k) n).map BitVec.toNat

/-- The state a command leaves. -/
def after (i : Instr) (s : State) : State :=
  match exec i s with
  | .next t => t
  | .fault f => nomatch f
  | .refused _ => s

/-- An Ethernet and IPv4 header from the peer, with the protocol byte (program P2). -/
def ipFrom (proto : Nat) : List Nat :=
  [2, 0, 0, 0, 0, 1, 2, 0, 0, 0, 0, 2, 8, 0, 0x45, 0, 0, 0x28, 0, 0, 0, 0, 0x40, proto, 0xEB, 0x7C,
   0xC0, 0xA8, 7, 2, 0xC0, 0xA8, 7, 1]

/-- A TCP segment from port 40000 to port 1234: sequence 0x1001, acknowledgement 0x10002, offset byte, flags. -/
def segFrame (off flags : Nat) : List Nat :=
  ipFrom 6 ++ [0x9C, 0x40, 4, 0xD2, 0, 0, 0x10, 1, 0, 1, 0, 2, off, flags, 4, 0, 0, 0, 0, 0]

/-- The SYN of program P2. -/
def synFrame : List Nat :=
  ipFrom 6 ++ [0x9C, 0x40, 4, 0xD2, 0, 0, 0x10, 0, 0, 0, 0, 0, 0x50, 2, 4, 0, 0x6B, 0x7C, 0, 0]

/-- The ARP request of program P1. -/
def arpFrame : List Nat :=
  [255, 255, 255, 255, 255, 255, 2, 0, 0, 0, 0, 2, 8, 6, 0, 1, 8, 0, 6, 4, 0, 1, 2, 0, 0, 0, 0, 2, 0xC0, 0xA8, 7, 2,
   0, 0, 0, 0, 0, 0, 0xC0, 0xA8, 7, 1]

/-- CONN[0] of the vectors, in a given state. -/
def peer (st : TcpState) : Conn :=
  { Conn.zero with
    remoteIp := 0xC0A80702, localPort := 1234, remotePort := 40000, localSeq := 0x00010001, remoteSeq := 0x00001001
    state := st, priv := 0x55 }

/-- Reset with the service of program P2 and a frame in RXBUF. -/
def listening (frame : List Nat) : State :=
  { State.reset with
    svcs := State.reset.svcs.set 0 { port := 1234, valid := true, priv := 0x55 }
    mem := rx frame, rxLen := BitVec.ofNat 16 frame.length, rxArmed := false }

/-- The same with CONN[0] bound. -/
def bound (st : TcpState) (frame : List Nat) : State :=
  { listening frame with conns := State.reset.conns.set 0 (peer st) }

/-- The same with a frame in flight. -/
def busy (s : State) : State := { s with txProto := 0x0800, txLen := 54 }

/-- The same with a callback or hold outstanding. -/
def at' (s : State) (q : Sequencer) : State := { s with seq := q }

/-- A parsed segment, for continuations. -/
def seg : Segment :=
  { srcIp := 0xC0A80702, sport := 40000, dport := 1234, sseq := 0x1000, sack := 0, off := 5, flags := 1, len := 20 }

/-! ## WellFormed: an ill-formed term for each check (R303) -/

theorem test_wf_tcpAcq : (Instr.tcpAcq 2).wellFormed Config.sample = false := by decide
theorem test_wf_tcpTx : (Instr.tcpTx 2 0).wellFormed Config.sample = false := by decide
theorem test_wf_tcpWait : (Instr.tcpWait 15).wellFormed Config.sample = false := by decide
theorem test_wf_tcpClose : (Instr.tcpClose 2).wellFormed Config.sample = false := by decide
theorem test_wf_svcReg : (Instr.svcReg 1 80).wellFormed Config.sample = false := by decide
theorem test_wf_accepts : (Instr.tcpAcq 1).wellFormed Config.sample = true ∧
    (Instr.svcReg 0 80).wellFormed Config.sample = true := by decide

/-! ## Decoding: the words of 95_test_vectors.md section 2 -/

/-- `init`, `poll`, `eth.acq 0x0806`, `eth.tx 28`, `more 1`, `more 0`, `eth.rx 42`. -/
theorem test_decode_netif :
    decode 0x00000001 = .ok .init ∧ decode 0x00000002 = .ok .poll ∧ decode 0x08060003 = .ok (.ethAcq 0x0806) ∧
    decode 0x001C0004 = .ok (.ethTx 28) ∧ decode 0x00010005 = .ok (.setMore true) ∧
    decode 0x00000005 = .ok (.setMore false) ∧ decode 0x002A0006 = .ok (.ethRx 42) := ⟨rfl, rfl, rfl, rfl, rfl, rfl, rfl⟩

/-- `arp.rx 28`, `csum 4`, `ip.rx 20`, `ip.acq 6`, `ip.tx 20`. -/
theorem test_decode_arp_csum_ip :
    decode 0x001C0010 = .ok (.arpRx 28) ∧ decode 0x00040018 = .ok (.csum 4) ∧ decode 0x00140020 = .ok (.ipRx 20) ∧
    decode 0x00060021 = .ok (.ipAcq 6) ∧ decode 0x00140022 = .ok (.ipTx 20) := ⟨rfl, rfl, rfl, rfl, rfl⟩

/-- `tcp.rx 20`, `tcp.find`, `tcp.acq c1`, `tcp.tx c1, 5`, `tcp.wait c0`, `tcp.close c1`. -/
theorem test_decode_tcp :
    decode 0x00140030 = .ok (.tcpRx 20) ∧ decode 0x00000031 = .ok .tcpFind ∧ decode 0x00000132 = .ok (.tcpAcq 1) ∧
    decode 0x00050133 = .ok (.tcpTx 1 5) ∧ decode 0x00000034 = .ok (.tcpWait 0) ∧
    decode 0x00000135 = .ok (.tcpClose 1) := ⟨rfl, rfl, rfl, rfl, rfl, rfl⟩

/-- `svc.reg s0, 1234`, `cb.ret 1`. -/
theorem test_decode_host :
    decode 0x04D20040 = .ok (.svcReg 0 1234) ∧ decode 0x00010041 = .ok (.cbRet 1) := ⟨rfl, rfl⟩

/-- The words of section 2 that decode to no accepted command. -/
theorem test_decode_rejects :
    decode 0x00000000 = .error .illegalOpc ∧ decode 0x000000FF = .error .illegalOpc ∧
    decode 0x00001002 = .error .rsvBits ∧ decode 0x00000102 = .error .rsvBits ∧
    decode 0x00010001 = .error .rsvBits ∧ decode 0x01000021 = .error .rsvBits ∧
    decode 0x00020005 = .error .rsvBits ∧ decode 0x00010031 = .error .rsvBits :=
  ⟨rfl, rfl, rfl, rfl, rfl, rfl, rfl, rfl⟩

/-- The encoder writes the same words. -/
theorem test_encode :
    encode (.tcpTx 1 5) = 0x00050133 ∧ encode (.svcReg 0 1234) = 0x04D20040 ∧ encode (.setMore true) = 0x00010005 ∧
    encode (.ipAcq 6) = 0x00060021 := by decide

/-! ## One step of each command -/

/-- R400, program P1 step 1: STATUS 0x10, RX_CTRL 0x00010000. -/
theorem test_init :
    (after .init (bound .established arpFrame)).statusWord = 0x10 ∧
    (after .init (bound .established arpFrame)).readRegister 0x03C = 0x00010000 ∧
    (after .init (bound .established arpFrame)).readRegister 0x100 = 0 := by decide

/-- Program P1 step 3: the ARP reply, RESULT 3, TX_CTRL 0x0806. -/
theorem test_poll_arp :
    tx (after .poll (listening arpFrame)) 0 42 =
      [2, 0, 0, 0, 0, 2, 2, 0, 0, 0, 0, 1, 8, 6, 0, 1, 8, 0, 6, 4, 0, 2, 2, 0, 0, 0, 0, 1, 0xC0, 0xA8, 7, 1,
       2, 0, 0, 0, 0, 2, 0xC0, 0xA8, 7, 2] ∧
    (after .poll (listening arpFrame)).result = 3 ∧ (after .poll (listening arpFrame)).txProto = 0x0806 := by
  decide +kernel

/-- R401: MORE_CB with a busy TX buffer is backpressure. -/
theorem test_poll_backpressure : (after .poll { busy State.reset with moreCb := true }).result = 1 := by decide

/-- R403, the rule's example. -/
theorem test_ethAcq :
    tx (after (.ethAcq 0x0806) (listening arpFrame)) 0 14 = [2, 0, 0, 0, 0, 2, 2, 0, 0, 0, 0, 1, 8, 6] ∧
    (after (.ethAcq 0x0806) (listening arpFrame)).result = 0x800E := by decide +kernel

/-- Vector E7: a zero EtherType at a send. -/
theorem test_ethTx_etype0 :
    (after (.ethTx 0) { State.reset with cmdLast := 4 }).statusWord = 0x920 ∧
    (after (.ethTx 0) { State.reset with cmdLast := 4 }).errCmd = 4 := by decide

/-- R404, the rule's example: a 42-byte frame. -/
theorem test_ethTx :
    (after (.ethTx 28) { State.reset with mem := put [] 0x800C [8, 6] }).readRegister 0x040 = 0x0806 ∧
    (after (.ethTx 28) { State.reset with mem := put [] 0x800C [8, 6] }).txLen = 42 := by decide +kernel

/-- R405, the rule's example. -/
theorem test_setMore : (after (.setMore true) State.reset).readRegister 0x040 = 0x00010000 := by decide

/-- R406, the rule's example: the reply is sent, and reception stays as it was. -/
theorem test_ethRx :
    (after (.ethRx 42) (listening arpFrame)).txLen = 42 ∧ (after (.ethRx 42) (listening arpFrame)).rxLen = 42 ∧
    (after (.ethRx 42) (listening arpFrame)).result = 0 := by decide +kernel

/-- R450, the rule's example. -/
theorem test_arpRx : (after (.arpRx 28) (listening arpFrame)).result = 1 := by decide +kernel

/-- R451: a packet under 28 bytes gets no reply. -/
theorem test_arpRx_short : (after (.arpRx 27) (listening arpFrame)).result = 0 ∧
    (after (.arpRx 27) (listening arpFrame)).trace = [] := by decide +kernel

/-- R501, the rule's example. -/
theorem test_csum :
    (after (.csum 4) { State.reset with mem := put [] 0x8000 [0x45, 0, 0, 0x1C], arg1 := 0x8000 }).result = 0x451C := by
  decide

/-- R503: a large seed wraps modulo 2^32, so 0xFFFFFFFF + 1 gives 0. -/
theorem test_csum_wraps :
    (after (.csum 2) { State.reset with mem := put [] 0x8000 [0, 1], arg0 := 0xFFFFFFFF, arg1 := 0x8000 }).result = 0 := by
  decide

/-- R550, the rule's example: ICMP is logged. -/
theorem test_ipRx : (after (.ipRx 20) (listening (ipFrom 1))).trace = [.log .icmp 0] := by decide +kernel

/-- R555, the rule's example. -/
theorem test_ipAcq :
    tx (after (.ipAcq 6) { listening synFrame with arg0 := 0xC0A80702 }) 14 20 =
      [0x45, 0, 0, 0, 0, 0, 0, 0, 0x40, 6, 0, 0, 0xC0, 0xA8, 7, 1, 0xC0, 0xA8, 7, 2] ∧
    (after (.ipAcq 6) { listening synFrame with arg0 := 0xC0A80702 }).result = 0x8022 := by decide +kernel

/-- R560, the rule's example: total length 0x0028, checksum 0xEB7C, a 54-byte frame. -/
theorem test_ipTx :
    tx (after (.ipTx 20) (after (.ipAcq 6) { listening synFrame with arg0 := 0xC0A80702 })) 16 2 = [0, 0x28] ∧
    tx (after (.ipTx 20) (after (.ipAcq 6) { listening synFrame with arg0 := 0xC0A80702 })) 24 2 = [0xEB, 0x7C] ∧
    (after (.ipTx 20) (after (.ipAcq 6) { listening synFrame with arg0 := 0xC0A80702 })).txLen = 54 := by
  decide +kernel

/-- Program P2 step 5, by `tcp.rx 20` (vector T15): ACCEPT, CONN[0] bound. -/
theorem test_tcpRx_syn :
    (after (.tcpRx 20) (listening synFrame)).readRegister 0x018 = 1 ∧
    (after (.tcpRx 20) (listening synFrame)).statusWord = 2 ∧
    (after (.tcpRx 20) (listening synFrame)).conn 0 =
      { peer .synReceived with localSeq := 0x00010000 } := by decide +kernel

/-- R618: an ACK in CLOSING raises CLOSED and stores no sequence number. -/
theorem test_tcpRx_closing :
    (after (.tcpRx 20) (bound .closing (segFrame 0x50 0x10))).readRegister 0x018 = 3 ∧
    (after (.tcpRx 20) (bound .closing (segFrame 0x50 0x10))).conn 0 = peer .closing := by decide +kernel

/-- R630, the rule's example, and the not-found value. -/
theorem test_tcpFind :
    (after .tcpFind (bound .established synFrame)).result = 0 ∧
    (after .tcpFind (listening synFrame)).result = 0xFFFFFFFF := by decide +kernel

/-- R650, the rule's example (vector T18). -/
theorem test_tcpAcq :
    tx (after (.tcpAcq 0) (bound .established synFrame)) 34 20 =
      [4, 0xD2, 0x9C, 0x40, 0, 1, 0, 1, 0, 0, 0x10, 1, 0x50, 0x10, 2, 0, 0, 0, 0, 0] ∧
    (after (.tcpAcq 0) (bound .established synFrame)).result = 0x8036 := by decide +kernel

/-- Vector T17: "hello" sent with PSH; checksums 0xEB77 and 0x298C; LOCAL_SEQ 0x10006. -/
def helloSent : State :=
  let a := after (.tcpAcq 0) (bound .established synFrame)
  after (.tcpTx 0 5) { a with mem := put a.mem 0x8036 [0x68, 0x65, 0x6C, 0x6C, 0x6F] }

theorem test_tcpTx :
    tx helloSent 16 2 = [0, 0x2D] ∧ tx helloSent 24 2 = [0xEB, 0x77] ∧ tx helloSent 46 6 = [0x50, 0x18, 2, 0, 0x29, 0x8C] ∧
    (helloSent.conn 0).localSeq = 0x00010006 ∧ (helloSent.conn 0).replyPending = false ∧ helloSent.txLen = 59 := by
  decide +kernel

/-- Vector H1: TCP_WAIT holds while a frame is in flight. -/
theorem test_tcpWait : (after (.tcpWait 0) (busy State.reset)).statusWord = 1 := by decide

/-- Program P5 step 2: ACK+FIN with checksum 0x6D6A, FIN_WAIT_1. -/
theorem test_tcpClose :
    tx (after (.tcpClose 0) (bound .established synFrame)) 46 6 = [0x50, 0x11, 2, 0, 0x6D, 0x6A] ∧
    ((after (.tcpClose 0) (bound .established synFrame)).conn 0).state = .finWait1 := by decide +kernel

/-- R700, the rule's example. -/
theorem test_svcReg :
    (after (.svcReg 0 1234) { State.reset with arg0 := 0x55 }).readRegister 0x400 = 0x000104D2 ∧
    (after (.svcReg 0 1234) { State.reset with arg0 := 0x55 }).readRegister 0x404 = 0x55 := by decide +kernel

/-- Program P2 step 6: the SYN+ACK after the ACCEPT callback, checksum 0x6D6A, RESULT 3. -/
theorem test_cbRet :
    tx (after (.cbRet 0) (after .poll (listening synFrame))) 38 14 = [0, 1, 0, 0, 0, 0, 0x10, 1, 0x50, 0x12, 2, 0, 0x6D, 0x6A] ∧
    (after (.cbRet 0) (after .poll (listening synFrame))).result = 3 ∧
    (after (.cbRet 0) (after .poll (listening synFrame))).readRegister 0x03C = 0x00010000 := by decide +kernel

/-- Vector E2: CB_RET while IDLE. -/
theorem test_cbRet_idle : (after (.cbRet 0) { State.reset with cmdLast := 0x41 }).statusWord = 0xA20 := by decide

/-! ## Witnesses: the hypotheses of each statement are met together, each clause at a boundary of its range -/

theorem wit_EncodeDecode : decode 0xFFFF0003 = .ok (.ethAcq 0xFFFF) := rfl

theorem wit_IllegalOpcodeRejected : opcField 0x00000042 ∉ legalOpcodes ∧ State.reset.isHeld = false := by decide

theorem wit_FieldChecks :
    (opcField 0x00001002 ∈ legalOpcodes ∧ reservedBitsSet 0x00001002 = true ∧ State.reset.isHeld = false) ∧
    (opcField 0x00000232 ∈ legalOpcodes ∧ decode 0x00000232 = .ok (.tcpAcq 2) ∧
      (Instr.tcpAcq 2).wellFormed State.reset.cfg = false ∧ State.reset.seq = .idle) :=
  ⟨by decide, by decide, rfl, by decide, rfl⟩

theorem wit_ResetState : ({ State.reset with agenda := [.hardReset] } : State).agenda = .hardReset :: [] := rfl

theorem wit_InvariantsAtReset :
    ({ Config.sample with nConn := 16, nServ := 16, rxBufSize := 0x4000, txBufSize := 54 } : Config).wf := by decide

/-- A bound connection, a frame in flight that the trace records, and a callback outstanding. -/
def busyState : State :=
  { at' (bound .closing synFrame) (.cbWait (.closed .poll seg 0)) with
    mem := put (rx synFrame) 0x8000 [1, 2], txProto := 0x0800, txLen := 2, cbKind := .closed
    trace := [.frameSent [1, 2] 2], agenda := [.hostWrite .w32 0 0x00000041] }

theorem busyState_inv : busyState.Inv where
  cfgOk := by decide
  memCanonical := by decide +kernel
  memInBuffers := by decide +kernel
  macConstant := rfl
  rxHandOff := by decide
  rxFits := by decide
  txFits := by decide
  boundNotClosed := by decide +kernel
  pendingBound := by decide +kernel
  connService := by decide +kernel
  connBeyond := by decide +kernel
  svcBeyond := by decide +kernel
  kindOfCallback := rfl
  connOfCallback := by
    intro k hk
    cases hk
    rfl
  slotsExist := show (0 : Slot).val < 2 by decide

theorem wit_StepKeepsInv : busyState.Inv ∧ ∃ t, step busyState = .next t := ⟨busyState_inv, _, rfl⟩

theorem wit_StepKeepsFlight :
    busyState.Inv ∧ busyState.FlightIntact ∧ busyState.txBusy = true ∧ busyState.fTxOverwrite = false ∧
      ∃ t, step busyState = .next t :=
  ⟨busyState_inv, fun _ _ => by decide +kernel, by decide, rfl, _, rfl⟩

theorem wit_TraceOnlyGrows : ∃ t, step busyState = .next t := ⟨_, rfl⟩

theorem wit_StepRunsDecodedCommand :
    busyState.agenda = .hostWrite .w32 0 0x00000041 :: [] ∧ decode 0x00000041 = .ok (.cbRet 0) ∧
    ({ State.reset with agenda := [.hostWrite .w32 0 0] } : State).agenda = .hostWrite .w32 0 0 :: [] ∧
    decode 0 = .error .illegalOpc := ⟨rfl, rfl, rfl, rfl⟩

theorem wit_FirstFailingCheckReported :
    (decode 0x00000232 = .ok (.tcpAcq 2) ∧ reportedError State.reset (.tcpAcq 2) = some .cidx) ∧
    decode 0x000000FF = .error .illegalOpc := ⟨⟨rfl, by decide +kernel⟩, rfl⟩

theorem wit_AcceptedKeepsErrors :
    reportedError { State.reset with err := some .busy } .poll = none ∧ Instr.poll ≠ .init ∧
      ∃ t, exec .poll { State.reset with err := some .busy } = .next t := ⟨by decide +kernel, by decide, _, rfl⟩

theorem wit_ReceivedBytesNeverReject :
    (∀ a, 0x8000 ≤ a → Memory.read [(0x7FFF, 1)] a = Memory.read State.reset.mem a) ∧
    State.reset.seq = .idle ∧ (1536 : Half).toNat ≤ State.reset.cfg.rxBufSize ∧
    14 + (1522 : Half).toNat ≤ State.reset.cfg.rxBufSize ∧ 34 + (1502 : Half).toNat ≤ State.reset.cfg.rxBufSize := by
  refine ⟨fun a ha => ?_, rfl, by decide, by decide, by decide⟩
  have h : ¬ a = 0x7FFF := by omega
  show (if a = 0x7FFF then _ else Memory.unlisted) = Memory.unlisted
  rw [if_neg h]

theorem wit_NestedSet :
    (at' State.reset (.cbWait .more)).seq = .cbWait .more ∧
    ∃ t, exec (.setMore true) { at' State.reset (.cbWait .more) with err := some .reentrant } = .next t ∧
      t.err = some .reentrant := ⟨rfl, _, rfl, rfl⟩

theorem wit_CallbackStaysOutstanding :
    (at' State.reset (.cbWait .more)).seq = .cbWait .more ∧ (∀ v, Instr.init ≠ .cbRet v) ∧
      ∃ t, exec .init (at' State.reset (.cbWait .more)) = .next t := ⟨rfl, by simp, _, rfl⟩

theorem wit_CallbackReturns :
    (at' State.reset (.cbWait .more)).seq = .cbWait .more ∧
    (at' State.reset (.cbWait (.udp .poll))).seq = .cbWait (.udp .poll) ∧
    (at' State.reset (.cbWait (.closed .direct seg 1))).seq = .cbWait (.closed .direct seg 1) ∧
    ((at' (busy State.reset) (.cbWait (.accept .poll seg 1))).seq = .cbWait (.accept .poll seg 1) ∧
      (at' (busy State.reset) (.cbWait (.accept .poll seg 1))).txProto ≠ 0) ∧
    ((at' (busy State.reset) (.cbWait (.process .direct seg 0))).seq = .cbWait (.process .direct seg 0) ∧
      (at' (busy State.reset) (.cbWait (.process .direct seg 0))).txProto ≠ 0) :=
  ⟨rfl, rfl, rfl, ⟨rfl, by decide⟩, rfl, by decide⟩

/-- A UDP datagram of 20 bytes, the least, in a frame of 34. -/
theorem wit_UdpDelivered :
    ((listening (ipFrom 17)).seq = .idle ∧ (listening (ipFrom 17)).HandsUdp .poll .poll 0) ∧
    (listening (ipFrom 17)).HandsUdp (.ethRx 1536) .direct 1502 ∧
    (listening (ipFrom 17)).HandsUdp (.ipRx 20) .direct 0 ∧
    (at' State.reset (.cbWait (.udp .direct))).seq = .cbWait (.udp .direct) :=
  ⟨⟨rfl, .inl ⟨rfl, rfl, rfl, by decide +kernel, by decide +kernel, by decide⟩⟩,
    .inr ⟨rfl, 1536, .inl ⟨rfl, by decide, by decide +kernel, by decide +kernel, by decide⟩⟩,
    .inr ⟨rfl, 20, .inr ⟨rfl, by decide, by decide +kernel, by decide⟩⟩, rfl⟩

theorem wit_HoldResumes :
    (busy State.reset).agenda = [] ∧ (busy State.reset).txProto ≠ 0 ∧ State.reset.txProto = 0 ∧
    ({ State.reset with agenda := [.resume] } : State).agenda = .resume :: [] ∧
    (at' State.reset (.hold (.command (.tcpWait 0)))).seq = .hold (.command (.tcpWait 0)) ∧
    (at' State.reset (.cbHold .more (.tcpWait 1))).seq = .cbHold .more (.tcpWait 1) ∧
    (at' State.reset (.hold (.estDone .poll seg 0))).seq = .hold (.estDone .poll seg 0) ∧
    (at' State.reset (.hold (.finDone .direct seg 1))).seq = .hold (.finDone .direct seg 1) :=
  ⟨rfl, by decide, rfl, rfl, rfl, rfl, rfl, rfl⟩

/-- Vector H2: INIT during a hold. -/
def heldState : State :=
  { at' (busy State.reset) (.hold (.command (.tcpWait 0))) with agenda := [.hostWrite .w32 0 1] }

theorem wit_HoldLasts :
    heldState.isHeld = true ∧ heldState.txProto ≠ 0 ∧ heldState.agenda.head? ≠ some .txComplete ∧
    heldState.agenda.head? ≠ some .hardReset ∧ heldState.agenda.head? = some (.hostWrite .w32 0 1) ∧
    ∃ t, step heldState = .next t := ⟨by decide, by decide, by decide, by decide, rfl, _, rfl⟩

/-- The shortest and the longest frame that fits. -/
theorem wit_DeliverFrame :
    State.reset.Ok ∧ ({ State.reset with agenda := [.deliver [7]] } : State).agenda = .deliver [7] :: [] ∧
    State.reset.rxArmed = true ∧ (1 ≤ ([7] : List Byte).length ∧ ([7] : List Byte).length ≤ State.reset.cfg.rxBufSize) ∧
    (List.replicate 1536 (0 : Byte)).length ≤ State.reset.cfg.rxBufSize :=
  ⟨by decide, rfl, by decide, by decide, List.length_replicate.le⟩

/-- The three ways a frame is not delivered: empty, one byte too long, reception not armed. -/
theorem wit_DeliverFrame_not :
    ¬ 1 ≤ ([] : List Byte).length ∧ ¬ (List.replicate 1537 (0 : Byte)).length ≤ State.reset.cfg.rxBufSize ∧
    ¬ (listening synFrame).rxArmed = true :=
  ⟨by decide, fun h => absurd (List.length_replicate.ge.trans h) (by decide), by decide⟩

theorem wit_TransportCompletes :
    ({ State.reset with agenda := [.txComplete] } : State).agenda = .txComplete :: [] ∧ State.reset.txProto = 0 ∧
    ({ busy State.reset with agenda := [.txComplete] } : State).agenda = .txComplete :: [] ∧
    (busy State.reset).txProto ≠ 0 := ⟨rfl, rfl, rfl, by decide⟩

theorem wit_WireCarriesEventBytes :
    ({ busyState with agenda := [.txComplete] } : State).agenda = .txComplete :: [] ∧
    ({ busyState with agenda := [.txComplete] } : State).txProto ≠ 0 ∧
    ({ busyState with agenda := [.txComplete] } : State).Safe ∧
    ({ busyState with agenda := [.txComplete] } : State).FlightIntact :=
  ⟨rfl, by decide, rfl, fun _ _ => by decide +kernel⟩

theorem wit_InitZeroes :
    reportedError (at' State.reset (.cbWait .more)) .init = some .reentrant ∧ (busy State.reset).seq = .idle :=
  ⟨by decide +kernel, rfl⟩

theorem wit_PollWithoutDispatch :
    (let s : State := { busy State.reset with moreCb := true }
     s.seq = .idle ∧ s.moreCb = true ∧ s.txProto ≠ 0) ∧
    (let s : State := { State.reset with moreCb := true }
     s.seq = .idle ∧ s.moreCb = true ∧ s.txProto = 0) ∧
    (State.reset.seq = .idle ∧ State.reset.moreCb = false ∧ State.reset.rxLen = 0) := by decide

/-- An unknown EtherType, an ARP packet of hardware type 6, protocol 99, a segment without SYN for no connection; the
longest lengths each command takes, and a frame of 13 bytes. -/
theorem wit_DroppedPackets :
    ((listening (arpFrame.take 13)).seq = .idle ∧ (listening (arpFrame.take 13)).moreCb = false ∧
      (listening (arpFrame.take 13)).rxLen ≠ 0 ∧
      (listening (arpFrame.take 13)).dropEth (listening (arpFrame.take 13)).rxLen.toNat = some []) ∧
    ((1536 : Half).toNat ≤ State.reset.cfg.rxBufSize ∧
      (listening (arpFrame.set 13 7)).dropEth (1536 : Half).toNat = some [.log .ethType 0x0807]) ∧
    (14 + (1522 : Half).toNat ≤ State.reset.cfg.rxBufSize ∧
      (listening (arpFrame.set 15 6)).dropArp (1522 : Half).toNat = some [.log .arpType 0x00060800]) ∧
    (14 + (1522 : Half).toNat ≤ State.reset.cfg.rxBufSize ∧
      (listening (ipFrom 99)).dropIp (1522 : Half).toNat = some [.log .ipProto 99]) ∧
    (34 + (1502 : Half).toNat ≤ State.reset.cfg.rxBufSize ∧
      (listening (segFrame 0x50 0x10)).dropTcp (1502 : Half).toNat = some []) := by decide +kernel

theorem wit_EthAcqBuilds : (listening synFrame).Ok ∧ (listening synFrame).isHeld = false := by decide +kernel

/-- The longest frame that fits, and one byte more. -/
theorem wit_EthTxHandsOver :
    (State.reset.tx16 12 = 0 ∧ ({ State.reset with mem := put [] 0x800C [8, 6] } : State).tx16 12 ≠ 0) ∧
    State.reset.isHeld = false ∧ 14 + (1522 : Half).toNat ≤ State.reset.cfg.txBufSize ∧
    State.reset.cfg.txBufSize < 14 + (1523 : Half).toNat := by decide +kernel

theorem wit_SetMoreWrites :
    State.reset.isHeld = false ∧ opcField 0x00020005 = 0x05 ∧ (0x00020005 : Word).toNat / 2 ^ 17 ≠ 0 := by decide

/-- The shortest request, and the longest length. -/
theorem wit_ArpRequestAnswered :
    (listening arpFrame).Ok ∧ (listening arpFrame).seq = .idle ∧
    (14 + (28 : Half).toNat ≤ (listening arpFrame).cfg.rxBufSize ∧
      (listening arpFrame).ArpRequestForUs (28 : Half).toNat) ∧
    (14 + (1522 : Half).toNat ≤ (listening arpFrame).cfg.rxBufSize ∧
      (listening arpFrame).ArpRequestForUs (1522 : Half).toNat) := by decide +kernel

theorem wit_ArpFrameDispatched :
    (listening arpFrame).Ok ∧ (listening arpFrame).seq = .idle ∧ (listening arpFrame).rx16 12 = 0x0806 ∧
    ((listening arpFrame).moreCb = false ∧
      (listening arpFrame).ArpRequestForUs ((listening arpFrame).rxLen.toNat - 14)) ∧
    ((1536 : Half).toNat ≤ (listening arpFrame).cfg.rxBufSize ∧
      (listening arpFrame).ArpRequestForUs ((1536 : Half).toNat - 14)) := by decide +kernel

/-- A whole buffer, the empty range at its end (vector E6d), and one byte too many. -/
theorem wit_CsumResult :
    State.reset.isHeld = false ∧
    ({ State.reset with arg1 := 0x8000 } : State).inRange ((0x8000 : Word).toNat % 65536) (1536 : Half).toNat = true ∧
    ({ State.reset with arg1 := 0x4600 } : State).inRange ((0x4600 : Word).toNat % 65536) (0 : Half).toNat = true ∧
    ({ State.reset with arg1 := 0x8000 } : State).inRange ((0x8000 : Word).toNat % 65536) (1537 : Half).toNat = false := by
  decide

theorem wit_ChecksumRoundTrip :
    ([0x45, 0] : List Byte).length % 2 = 0 ∧ ([0x45, 0] : List Byte).length + 2 + ([9] : List Byte).length ≤ 0x4000 := by
  decide

theorem wit_IpAcqBuilds :
    (listening synFrame).isHeld = false ∧ (listening synFrame).Ok ∧
    opcField 0x01000021 = 0x21 ∧ (0x01000021 : Word).toNat / 2 ^ 24 ≠ 0 := by decide +kernel

theorem wit_IpTxSeals :
    (let s : State := { State.reset with mem := put [] 0x800C [8, 0] }
     s.Ok ∧ s.isHeld = false ∧ 34 + (1502 : Half).toNat ≤ s.cfg.txBufSize ∧ s.tx16 12 ≠ 0) ∧
    State.reset.tx16 12 = 0 ∧ State.reset.cfg.txBufSize < 34 + (1503 : Half).toNat := by decide +kernel

theorem wit_TcpFindResult :
    (listening synFrame).isHeld = false ∧ (∀ i, ¬ (listening synFrame).Matched i) ∧
    Least (bound .established synFrame).Matched 0 := by decide +kernel

theorem wit_TcpAcqBuildsOrReuses :
    reportedError State.reset (.tcpAcq 0) = some .connFree ∧ (bound .established synFrame).Ok ∧
    reportedError (bound .established synFrame) (.tcpAcq 0) = none ∧
    ((bound .established synFrame).conn 0).replyPending = false ∧
    ((after (.tcpAcq 0) (bound .established synFrame)).conn 0).replyPending = true ∧
    reportedError (after (.tcpAcq 0) (bound .established synFrame)) (.tcpAcq 0) = none := by decide +kernel

/-- The longest segment. -/
theorem wit_TcpTxSends :
    reportedError (bound .established synFrame) (.tcpTx 0 1483) = some .range ∧
    (after (.tcpAcq 0) (bound .established synFrame)).Ok ∧
    reportedError (after (.tcpAcq 0) (bound .established synFrame)) (.tcpTx 0 1482) = none := by decide +kernel

theorem wit_TcpWaitWaits :
    reportedError State.reset (.tcpWait 2) = some .cidx ∧
    (State.reset.isHeld = false ∧ (1 : Slot).val < State.reset.cfg.nConn ∧ State.reset.txProto = 0) ∧
    ((busy State.reset).isHeld = false ∧ (busy State.reset).txProto ≠ 0 ∧ (busy State.reset).seq = .idle) ∧
    ((at' (busy State.reset) (.cbWait .more)).isHeld = false ∧
      (at' (busy State.reset) (.cbWait .more)).seq = .cbWait .more) ∧
    (at' State.reset (.hold (.command (.tcpWait 1)))).seq = .hold (.command (.tcpWait 1)) := by decide +kernel

/-- A connection whose pending header the host's EtherType 0 keeps from being sent, and a frame in RXBUF. -/
def zeroed (st : TcpState) (frame : List Nat) : State :=
  { bound st frame with conns := State.reset.conns.set 0 { peer st with replyPending := true } }

theorem wit_TcpCloseSendsFin :
    reportedError State.reset (.tcpClose 1) = some .connFree ∧
    (reportedError (busy (bound .established synFrame)) (.tcpClose 0) = none ∧
      (busy (bound .established synFrame)).txProto ≠ 0 ∧ (busy (bound .established synFrame)).seq = .idle) ∧
    (reportedError (at' (busy (bound .established synFrame)) (.cbWait .more)) (.tcpClose 0) = none ∧
      (at' (busy (bound .established synFrame)) (.cbWait .more)).seq = .cbWait .more) := by decide +kernel

theorem wit_TcpCloseSendsFin_sent :
    ((bound .established synFrame).Ok ∧ (bound .established synFrame).txProto = 0 ∧
      (bound .established synFrame).CanReply 0 ∧ reportedError (bound .established synFrame) (.tcpClose 0) = none) ∧
    ((zeroed .established synFrame).Ok ∧ (zeroed .established synFrame).txProto = 0 ∧
      ¬ (zeroed .established synFrame).CanReply 0 ∧ reportedError (zeroed .established synFrame) (.tcpClose 0) = none) := by decide +kernel

theorem wit_TcpCloseSendsFin_held :
    ((at' (bound .established synFrame) (.hold (.command (.tcpClose 0)))).seq = .hold (.command (.tcpClose 0)) ∧
      (at' (bound .established synFrame) (.hold (.command (.tcpClose 0)))).Ok) ∧
    ((at' (bound .established synFrame) (.cbHold .more (.tcpClose 0))).seq = .cbHold .more (.tcpClose 0) ∧
      (at' (bound .established synFrame) (.cbHold .more (.tcpClose 0))).Ok) := by decide +kernel

/-- POLL brings a segment of 20 bytes, the least, in a frame of 54. -/
theorem arrives_poll (s : State)
    (h : s.seq = .idle ∧ s.moreCb = false ∧ s.rx16 12 = 0x0800 ∧ s.rx8 23 = 6 ∧ s.rxLen.toNat = 54) :
    s.TcpArrives .poll .poll 20 := ⟨h.1, .inl ⟨rfl, rfl, h.2.1, h.2.2.1, h.2.2.2.1, h.2.2.2.2⟩, by decide⟩

/-- TCP_RX brings a segment of its own length, up to the end of the buffer. -/
theorem arrives_tcpRx (s : State) (n : Half)
    (h : s.seq = .idle ∧ 34 + n.toNat ≤ s.cfg.rxBufSize ∧ 20 ≤ n.toNat) :
    s.TcpArrives (.tcpRx n) .direct n.toNat := ⟨h.1, .inr ⟨rfl, n, .inr (.inr ⟨rfl, h.2.1, rfl⟩)⟩, h.2.2⟩

/-- A SYN while CONN[0] is bound to another port: the last slot and the last service are taken. -/
def secondSyn : State :=
  { listening synFrame with conns := State.reset.conns.set 0 { peer .established with remotePort := 40001 } }

theorem wit_AcceptRaisesCallback :
    secondSyn.TcpArrives .poll .poll 20 ∧ secondSyn.TcpArrives (.tcpRx 1502) .direct (1502 : Half).toNat ∧
    secondSyn.rxSyn = true ∧ (∀ i, ¬ secondSyn.Matched i) ∧ Least secondSyn.FreeAt 1 ∧ Least secondSyn.Serves 0 :=
  ⟨arrives_poll _ (by decide +kernel), arrives_tcpRx _ _ (by decide), by decide +kernel, by decide +kernel,
    by decide +kernel, by decide +kernel⟩

/-- A built reply after the callback, one not handed over after the hold. -/
theorem wit_SynAckSent :
    (let s := at' (bound .synReceived synFrame) (.cbWait (.accept .poll seg 0))
     s.Ok ∧ s.txProto = 0 ∧ s.CanReply 0 ∧ s.seq = .cbWait (.accept .poll seg 0)) ∧
    (let s := at' (zeroed .synReceived synFrame) (.hold (.synAck .direct seg 0))
     s.Ok ∧ s.txProto = 0 ∧ ¬ s.CanReply 0 ∧ s.seq = .hold (.synAck .direct seg 0)) := by decide +kernel

/-- A SYN when both slots are bound, a SYN for a port no service has, and a held RST. -/
def fullTable : State :=
  { listening synFrame with
    conns := (State.reset.conns.set 0 { peer .established with remotePort := 1 }).set 1
      { peer .established with remotePort := 2 } }

/-- Program P4: no service is registered. -/
def noService : State := { listening synFrame with svcs := State.reset.svcs }

theorem wit_RefusedSynGetsRst :
    (fullTable.Ok ∧ fullTable.TcpArrives .poll .poll 20 ∧ fullTable.rxSyn = true ∧ (∀ i, ¬ fullTable.Matched i) ∧
      (∀ i, ¬ fullTable.FreeAt i) ∧ fullTable.txProto = 0) ∧
    (noService.Ok ∧ noService.TcpArrives (.tcpRx 20) .direct (20 : Half).toNat ∧ noService.rxSyn = true ∧
      (∀ i, ¬ noService.Matched i) ∧ Least noService.FreeAt 0 ∧ (∀ j, ¬ noService.Serves j)) ∧
    ((busy fullTable).Ok ∧ (busy fullTable).TcpArrives .poll .poll 20 ∧ (busy fullTable).txProto ≠ 0) ∧
    (let s := at' State.reset (.hold (.rst .poll seg))
     s.Ok ∧ s.txProto = 0 ∧ s.seq = .hold (.rst .poll seg)) :=
  ⟨⟨by decide +kernel, arrives_poll _ (by decide +kernel), by decide +kernel, by decide +kernel, by decide +kernel,
      by decide⟩,
    ⟨by decide +kernel, arrives_tcpRx _ _ (by decide), by decide +kernel, by decide +kernel, by decide +kernel,
      by decide +kernel⟩,
    ⟨by decide +kernel, arrives_poll _ (by decide +kernel), by decide⟩, by decide +kernel⟩

theorem wit_AckEstablishes :
    (bound .synReceived (segFrame 0x50 0x10)).TcpArrives .poll .poll 20 ∧
      Least (bound .synReceived (segFrame 0x50 0x10)).Matched 0 ∧
      ((bound .synReceived (segFrame 0x50 0x10)).conn 0).state = .synReceived :=
  ⟨arrives_poll _ (by decide +kernel), by decide +kernel, by decide +kernel⟩

/-- A bare ACK, a segment with one byte of data, a FIN without data at a busy and at a free TX buffer. -/
theorem wit_EstablishedReceives :
    (let s := bound .established (segFrame 0x50 0x10)
     s.TcpArrives .poll .poll 20 ∧ Least s.Matched 0 ∧ (s.conn 0).state = .established ∧ 20 ≤ s.rxHeaderLen ∧
       s.rxFin = false) ∧
    (let s := bound .established (segFrame 0x50 0x10)
     s.TcpArrives (.tcpRx 21) .direct (21 : Half).toNat ∧ s.rxHeaderLen < (21 : Half).toNat) ∧
    (let s := bound .established (segFrame 0x50 0x11)
     s.TcpArrives .poll .poll 20 ∧ Least s.Matched 0 ∧ (s.conn 0).state = .established ∧ 20 ≤ s.rxHeaderLen ∧
       s.rxFin = true ∧ s.txProto = 0 ∧ s.Ok ∧ s.CanReply 0 ∧ (busy s).txProto ≠ 0) :=
  ⟨⟨arrives_poll _ (by decide +kernel), by decide +kernel⟩, ⟨arrives_tcpRx _ _ (by decide), by decide +kernel⟩,
    arrives_poll _ (by decide +kernel), by decide +kernel⟩

/-- The reply to a FIN that is logged and not sent: the second hold passes. -/
theorem wit_EstablishedReceives_logged :
    let s := zeroed .established (segFrame 0x50 0x11)
    s.TcpArrives .poll .poll 20 ∧ Least s.Matched 0 ∧ (s.conn 0).state = .established ∧ 20 ≤ s.rxHeaderLen ∧
      s.rxFin = true ∧ s.txProto = 0 ∧ s.Ok ∧ ¬ s.CanReply 0 ∧ (after .poll s).seq = .idle :=
  ⟨arrives_poll _ (by decide +kernel), by decide +kernel⟩

theorem wit_EstablishedReplies :
    (let s := at' (bound .established synFrame) (.hold (.estReply .poll seg 0))
     s.Ok ∧ s.txProto = 0 ∧ s.CanReply 0 ∧ s.seq = .hold (.estReply .poll seg 0)) ∧
    (let s := at' (zeroed .established synFrame) (.hold (.estReply .poll seg 0))
     s.Ok ∧ s.txProto = 0 ∧ ¬ s.CanReply 0 ∧ s.seq = .hold (.estReply .poll seg 0)) ∧
    (let s := at' (after (.tcpAcq 0) (bound .established synFrame)) (.cbWait (.process .direct seg 0))
     s.Ok ∧ s.txProto = 0 ∧ (s.conn 0).replyPending = true ∧ s.CanReply 0 ∧
       s.seq = .cbWait (.process .direct seg 0)) := by decide +kernel

theorem wit_FinWait1Receives :
    (let s := bound .finWait1 (segFrame 0x50 0x10)
     s.TcpArrives .poll .poll 20 ∧ Least s.Matched 0 ∧ (s.conn 0).state = .finWait1 ∧ s.rxFin = false ∧
       s.rxAck = true) ∧
    (let s := bound .finWait1 (segFrame 0x50 0x00)
     s.TcpArrives .poll .poll 20 ∧ Least s.Matched 0 ∧ s.rxFin = false ∧ s.rxAck = false) ∧
    (let s := bound .finWait1 (segFrame 0x50 0x11)
     s.TcpArrives .poll .poll 20 ∧ Least s.Matched 0 ∧ s.rxFin = true ∧ s.txProto = 0 ∧ s.Ok ∧ s.CanReply 0 ∧
       (busy s).txProto ≠ 0) ∧
    (let s := at' (bound .finWait1 synFrame) (.hold (.finReply .poll seg 0))
     s.Ok ∧ s.txProto = 0 ∧ s.CanReply 0 ∧ s.seq = .hold (.finReply .poll seg 0)) :=
  ⟨⟨arrives_poll _ (by decide +kernel), by decide +kernel⟩, ⟨arrives_poll _ (by decide +kernel), by decide +kernel⟩,
    ⟨arrives_poll _ (by decide +kernel), by decide +kernel⟩, by decide +kernel⟩

/-- The ACK of a FIN that is logged and not sent, at once and after the hold: CLOSING in the same step. -/
theorem wit_FinWait1Receives_logged :
    (let s := zeroed .finWait1 (segFrame 0x50 0x11)
     s.TcpArrives .poll .poll 20 ∧ Least s.Matched 0 ∧ (s.conn 0).state = .finWait1 ∧ s.rxFin = true ∧
       s.txProto = 0 ∧ s.Ok ∧ ¬ s.CanReply 0 ∧ ((after .poll s).conn 0).state = .closing) ∧
    (let s := at' (zeroed .finWait1 synFrame) (.hold (.finReply .direct seg 0))
     s.Ok ∧ s.txProto = 0 ∧ ¬ s.CanReply 0 ∧ s.seq = .hold (.finReply .direct seg 0)) :=
  ⟨⟨arrives_poll _ (by decide +kernel), by decide +kernel⟩, by decide +kernel⟩

/-- An ACK without data, one with one byte of data, and a bound slot in CLOSED. -/
theorem wit_PassiveCloseReceives :
    (let s := bound .closeWait (segFrame 0x50 0x10)
     s.TcpArrives .poll .poll 20 ∧ Least s.Matched 0 ∧ (s.conn 0).state = .closeWait ∧ s.rxAck = true ∧
       20 ≤ s.rxHeaderLen) ∧
    (let s := bound .closing (segFrame 0x50 0x10)
     s.TcpArrives (.tcpRx 21) .direct (21 : Half).toNat ∧ Least s.Matched 0 ∧ (s.conn 0).state = .closing ∧
       ¬ (s.rxAck = true ∧ (21 : Half).toNat ≤ s.rxHeaderLen)) ∧
    (let s := bound .closed (segFrame 0x50 0x10)
     s.TcpArrives .poll .poll 20 ∧ Least s.Matched 0 ∧ (s.conn 0).state = .closed) :=
  ⟨⟨arrives_poll _ (by decide +kernel), by decide +kernel⟩, ⟨arrives_tcpRx _ _ (by decide), by decide +kernel⟩,
    arrives_poll _ (by decide +kernel), by decide +kernel⟩

theorem wit_SvcRegRegisters :
    reportedError State.reset (.svcReg 1 80) = some .cidx ∧ State.reset.seq = .idle ∧
    (0 : Slot).val < State.reset.cfg.nServ := by decide +kernel

/-- A buffer whose size is no multiple of 4: the word at 0x85FC straddles its end. -/
def oddBuffer : State := State.resetWith { Config.sample with txBufSize := 1534 }

/-- R201, R211: the two bytes of the straddling word inside the buffer are written, and read back with zeros above. -/
theorem test_window_straddle :
    (oddBuffer.writeWindow .w32 0x85FC 0x44332211).readBus .w32 0x85FC = { error := false, data := 0x00002211 } := by
  decide +kernel

/-- The last window byte that exists, an aligned and a misaligned word, a word across the end of the buffer, a narrow
register read, the last register. -/
theorem wit_HostReads :
    (let s : State := { State.reset with agenda := [.hostRead .w8 0x85FF] }
     s.agenda = .hostRead .w8 0x85FF :: [] ∧ (0x85FF : BitVec 16).toNat % Width.w8.bytes = 0) ∧
    (oddBuffer.cfg.wf ∧ 0x8000 ≤ (0x85FC : BitVec 16).toNat ∧
      (0x85FC : BitVec 16).toNat + 1 < 0x8000 + oddBuffer.cfg.txBufSize ∧
      ¬ (0x85FC : BitVec 16).toNat + 2 < 0x8000 + oddBuffer.cfg.txBufSize) ∧
    (0xFFFC : BitVec 16).toNat % Width.w32.bytes = 0 ∧ (0x8002 : BitVec 16).toNat % Width.w32.bytes ≠ 0 ∧
    ((0x3FFE : BitVec 16).toNat < 0x4000 ∧ Width.w16 ≠ .w32) ∧ (0x3FFC : BitVec 16).toNat < 0x4000 := by decide

theorem wit_HostWritesWindow :
    (let s : State := { State.reset with agenda := [.hostWrite .w8 0x85FF 1] }
     s.Ok ∧ s.agenda = .hostWrite .w8 0x85FF 1 :: []) ∧
    (let s : State := { oddBuffer with agenda := [.hostWrite .w32 0x85FC 0x44332211] }
     s.Ok ∧ s.agenda = .hostWrite .w32 0x85FC 0x44332211 :: [] ∧ (0x85FC : BitVec 16).toNat % Width.w32.bytes = 0 ∧
       (0x85FC : BitVec 16).toNat < 0x8000 + s.cfg.txBufSize ∧
       0x8000 + s.cfg.txBufSize < (0x85FC : BitVec 16).toNat + Width.w32.bytes) ∧
    (0x8000 ≤ (0x85FF : BitVec 16).toNat ∧ (0x85FF : BitVec 16).toNat < 0x8000 + State.reset.cfg.txBufSize) ∧
    ((0x4000 ≤ (0x7FFF : BitVec 16).toNat ∧ (0x7FFF : BitVec 16).toNat < 0x8000) ∧
      0x8000 + State.reset.cfg.txBufSize ≤ (0x8600 : BitVec 16).toNat) ∧
    (0x8001 : BitVec 16).toNat % Width.w16.bytes ≠ 0 ∧ ((0x0010 : BitVec 16).toNat < 0x4000 ∧ Width.w8 ≠ .w32) := by
  decide

theorem wit_HostWritesRegister :
    State.reset.cfg.wf ∧
    ({ State.reset with agenda := [.hostWrite .w32 0x134 9] } : State).agenda = .hostWrite .w32 0x134 9 :: [] ∧
    ((1 : Slot).val < State.reset.cfg.nConn ∧ (0x134 : BitVec 16).toNat = 0x114 + 0x20 * (1 : Slot).val) ∧
    ((0x154 : BitVec 16).toNat < 0x4000 ∧ (0x154 : BitVec 16).toNat % 4 = 0 ∧
      (0x154 : BitVec 16) ∉ [0x000, 0x004, 0x008, 0x010, 0x014] ∧
      ∀ i : Slot, i.val < State.reset.cfg.nConn → (0x154 : BitVec 16).toNat ≠ 0x114 + 0x20 * i.val) := by decide

theorem wit_RegisterFields :
    ({ Config.sample with nConn := 16, nServ := 1, rxBufSize := 54, txBufSize := 0x4000 } : Config).wf ∧
    (0x0FC % 4 = 0 ∧ 0x0FC < 0x4000 ∧ 0x0FC < 0x100) ∧ (0x3FFC % 4 = 0 ∧ 0x3FFC < 0x4000 ∧ 0x500 ≤ 0x3FFC) := by decide

theorem wit_TableBlocks :
    State.reset.cfg.wf ∧ (1 : Slot).val < State.reset.cfg.nConn ∧ (0 : Slot).val < State.reset.cfg.nServ ∧
    State.reset.cfg.nConn ≤ (2 : Slot).val ∧ State.reset.cfg.nServ ≤ (15 : Slot).val ∧ 0x1F < 0x20 := by decide

theorem wit_CommandsKeepHostRegisters : ∃ t, exec .poll (listening arpFrame) = .next t := ⟨_, rfl⟩

theorem wit_CommandsKeepRxBuffer :
    Memory.wf (listening arpFrame).mem ∧ (∃ t, exec .poll (listening arpFrame) = .next t) ∧ Instr.poll ≠ .init :=
  ⟨by decide +kernel, ⟨_, rfl⟩, by decide⟩

theorem wit_RegistryWriters :
    (∃ t, exec (.ipRx 20) (listening (ipFrom 1)) = .next t) ∧ Instr.ipRx 20 ≠ .init ∧ Instr.ipRx 20 ≠ .poll ∧
    (∀ v, Instr.ipRx 20 ≠ .cbRet v) ∧ (∀ j port, Instr.ipRx 20 ≠ .svcReg j port) ∧ ∀ b, Instr.ipRx 20 ≠ .setMore b :=
  ⟨⟨_, rfl⟩, by decide, by decide, by simp, by simp, by simp⟩

theorem wit_BusyAndFaultSticky :
    (∃ t, exec (.ethAcq 0x0800) { busy State.reset with fTxOverwrite := true } = .next t) ∧
    Instr.ethAcq 0x0800 ≠ .init ∧ ({ busy State.reset with fTxOverwrite := true } : State).txProto ≠ 0 ∧
    ({ busy State.reset with fTxOverwrite := true } : State).fTxOverwrite = true :=
  ⟨⟨_, rfl⟩, by decide, by decide, rfl⟩

end Sys2Proof.Tests
end

/-! ## Command words: the decoder's answer on every word, and what issuing a word it does not accept does (R303, R306) -/

namespace Sys2Proof.Machine

/-! ### Bit fields of a word -/

/-- The `len` bits of a word from bit `lo` on. -/
def fieldMask (lo len : Nat) : Word := (BitVec.allOnes len).setWidth 32 <<< lo

theorem getLsbD_fieldMask {lo len : Nat} (h : lo + len ≤ 32) (k : Nat) :
    (fieldMask lo len).getLsbD k = decide (lo ≤ k ∧ k < lo + len) := by
  simp only [fieldMask, BitVec.getLsbD_shiftLeft, BitVec.getLsbD_setWidth, BitVec.getLsbD_allOnes]
  grind

theorem and_fieldMask_eq_zero_iff_extractLsb' (w : Word) {lo len : Nat} (h : lo + len ≤ 32) :
    w &&& fieldMask lo len = 0#32 ↔ w.extractLsb' lo len = 0#len := by
  constructor
  · intro hw
    apply BitVec.eq_of_getLsbD_eq
    intro k hk
    have bit : (w &&& fieldMask lo len).getLsbD (lo + k) = false := by rw [hw, BitVec.getLsbD_zero]
    simpa [getLsbD_fieldMask h, hk] using bit
  · intro hw
    apply BitVec.eq_of_getLsbD_eq
    intro k hk
    have bit : (w.extractLsb' lo len).getLsbD (k - lo) = false := by rw [hw, BitVec.getLsbD_zero]
    rw [BitVec.getLsbD_extractLsb'] at bit
    rw [BitVec.getLsbD_and, getLsbD_fieldMask h, BitVec.getLsbD_zero]
    grind

theorem and_fieldMask_eq_zero_iff (w : Word) {lo len : Nat} (h : lo + len ≤ 32) :
    w &&& fieldMask lo len = 0#32 ↔ w.toNat / 2 ^ lo % 2 ^ len = 0 := by
  rw [and_fieldMask_eq_zero_iff_extractLsb' w h, ← BitVec.toNat_inj, BitVec.extractLsb'_toNat, Nat.shiftRight_eq_div_pow]
  rfl

/-- A field that ends at bit 31 is all that a division leaves. -/
theorem and_fieldMask_top_eq_zero_iff (w : Word) {lo len : Nat} (h : lo + len = 32) :
    w &&& fieldMask lo len = 0#32 ↔ w.toNat / 2 ^ lo = 0 := by
  have hlt : w.toNat / 2 ^ lo < 2 ^ len := Nat.div_lt_of_lt_mul (by rw [← Nat.pow_add, h]; exact w.isLt)
  rw [and_fieldMask_eq_zero_iff w h.le, Nat.mod_eq_of_lt hlt]

theorem and_ite_eq_zero_iff (w m : Word) (b : Bool) : w &&& (if b then m else 0#32) = 0#32 ↔
    (b = true → w &&& m = 0#32) := by
  cases b <;> simp

/-! ### The decoder -/

/-- R303: the bits that must be 0 in a word with the OPC `opc`, field by field. -/
def reservedMask (opc : Byte) : Word :=
  fieldMask 12 4 ||| (if !cidxOpcodes.contains opc then fieldMask 8 4 else 0#32) |||
    (if immZeroOpcodes.contains opc then fieldMask 16 16 else 0#32) |||
    (if opc == 0x21 then fieldMask 24 8 else 0#32) ||| (if opc == 0x05 then fieldMask 17 15 else 0#32)

theorem reservedBitsSet_iff (w : Word) : reservedBitsSet w = true ↔ w &&& reservedMask (opcField w) ≠ 0#32 := by
  have rsv : _ ↔ w.toNat / 2 ^ 12 % 16 = 0 := and_fieldMask_eq_zero_iff w (lo := 12) (len := 4) (by decide)
  have cidx : _ ↔ w.toNat / 2 ^ 8 % 16 = 0 := and_fieldMask_eq_zero_iff w (lo := 8) (len := 4) (by decide)
  have imm := and_fieldMask_top_eq_zero_iff w (lo := 16) (len := 16) rfl
  have immHigh := and_fieldMask_top_eq_zero_iff w (lo := 24) (len := 8) rfl
  have immButBit := and_fieldMask_top_eq_zero_iff w (lo := 17) (len := 15) rfl
  simp only [reservedMask, BitVec.and_or_distrib_left, BitVec.or_eq_zero_iff, and_ite_eq_zero_iff, ne_eq, rsv, cidx,
    imm, immHigh, immButBit]
  simp only [reservedBitsSet, Bool.or_eq_true, Bool.and_eq_true, bne_iff_ne, not_and_or, Classical.not_imp]

theorem mustBeZero_eq_rsvBits_iff (w mask : Word) (i : Instr) :
    mustBeZero w mask i = .error .rsvBits ↔ w &&& mask ≠ 0#32 := by
  by_cases h : w &&& mask = 0#32 <;> simp [mustBeZero, h]

theorem mustBeZero_ne_illegalOpc (w mask : Word) (i : Instr) : mustBeZero w mask i ≠ .error .illegalOpc := by
  unfold mustBeZero
  split <;> simp

/-- R303, R305: the mask of each arm of the decoder is `reservedMask` of the arm's OPC. -/
theorem decode_of_legal {w : Word} (h : opcField w ∈ legalOpcodes) :
    ∃ i, decode w = mustBeZero w (reservedMask (opcField w)) i := by
  unfold decode
  simp only [legalOpcodes, List.mem_cons, List.not_mem_nil, or_false] at h
  rcases h with h | h | h | h | h | h | h | h | h | h | h | h | h | h | h | h | h | h | h <;>
    (rw [h]; exact ⟨_, rfl⟩)

theorem opcField_eq_of_toNat {w : Word} {k : Nat} (h : (opcField w).toNat = k) : opcField w = BitVec.ofNat 8 k := by
  rw [← h, BitVec.ofNat_toNat, BitVec.setWidth_eq]

theorem decode_of_not_legal {w : Word} (h : opcField w ∉ legalOpcodes) : decode w = .error .illegalOpc := by
  unfold decode
  split
  case h_20 => rfl
  all_goals
    next arm => exact absurd (opcField_eq_of_toNat arm ▸ by decide) h

theorem decode_eq_illegalOpc_iff (w : Word) : decode w = .error .illegalOpc ↔ opcField w ∉ legalOpcodes := by
  refine ⟨fun hd hl => ?_, decode_of_not_legal⟩
  obtain ⟨i, hi⟩ := decode_of_legal hl
  exact mustBeZero_ne_illegalOpc _ _ i (hi ▸ hd)

theorem decode_eq_rsvBits_iff {w : Word} (h : opcField w ∈ legalOpcodes) :
    decode w = .error .rsvBits ↔ reservedBitsSet w = true := by
  obtain ⟨i, hi⟩ := decode_of_legal h
  rw [hi, mustBeZero_eq_rsvBits_iff, reservedBitsSet_iff]

/-! ### Rejected words -/

/-- R800: outside a hold, a word that is no command only records its error. -/
theorem State.issue_of_decode_error {s : State} {w : Word} {e : DecodeError} (hd : decode w = .error e)
    (hb : s.isHeld = false) :
    s.issue w = .next { s with cmdLast := w, err := some (.ofDecode e), errCmd := w } := by
  simp [State.issue, hd, hb, State.reject]

theorem State.issue_of_decode_ok {s : State} {w : Word} {i : Instr} (hd : decode w = .ok i) :
    s.issue w = exec i { s with cmdLast := w } := by
  simp [State.issue, hd]

theorem State.command_of_firstError {s : State} {checks : List (Bool × CmdError)} {e : CmdError}
    (h : firstError checks = some e) (run : State → State) : s.command checks run = .next (s.reject e) := by
  simp [State.command, h]

/-- R803 item 1: no command is held when the block is idle. -/
theorem State.firstError_nestedChecks_of_idle {s : State} (h : s.seq = .idle) (checks : List (Bool × CmdError)) :
    firstError (s.nestedChecks ++ checks) = firstError checks := by
  simp [State.nestedChecks, firstError, State.isHeld, h, Sequencer.code]

/-- R803 items 1 and 5: nothing is held and no callback outstanding when the block is idle. -/
theorem State.firstError_outerChecks_of_idle {s : State} (h : s.seq = .idle) (checks : List (Bool × CmdError)) :
    firstError (s.outerChecks ++ checks) = firstError checks := by
  simp [State.outerChecks, firstError, State.isHeld, State.inCallback, h, Sequencer.code]

/-- R303, last item: an index outside its table is the first check to fail in the idle block. -/
theorem exec_of_not_wellFormed {s : State} {i : Instr} (hi : i.wellFormed s.cfg = false) (hs : s.seq = .idle) :
    exec i s = .next (s.reject .cidx) := by
  cases i with
  | tcpAcq c | tcpTx c n | tcpWait c | tcpClose c =>
    have hc : s.connExists c = false := hi
    simp only [exec, execTcpAcq, execTcpTx, execTcpWait, execTcpClose]
    refine State.command_of_firstError ?_ _
    simp [State.firstError_nestedChecks_of_idle hs, State.connChecks, firstError, hc]
  | svcReg j port =>
    have hj : s.svcExists j = false := hi
    simp only [exec, execSvcReg]
    refine State.command_of_firstError ?_ _
    simp [State.firstError_outerChecks_of_idle hs, firstError, hj]
  | _ => simp [Instr.wellFormed] at hi

/-! ### The statements -/

/-- Settles O3: R306 by the decoder's answer on a word outside the opcode map. -/
theorem illegalOpcodeRejected : Obligations.IllegalOpcodeRejected := fun _ w =>
  ⟨decode_eq_illegalOpc_iff w, fun h hb => State.issue_of_decode_error (decode_of_not_legal h) hb⟩

/-- Settles O4: R303 by the decoder's mask for each OPC, and by the first failing check of an indexed command. -/
theorem fieldChecks : Obligations.FieldChecks := by
  intro s w h
  refine ⟨decode_eq_rsvBits_iff h, fun hr hb => ?_, fun i hd hi hs => ?_⟩
  · exact State.issue_of_decode_error ((decode_eq_rsvBits_iff h).2 hr) hb
  · exact (State.issue_of_decode_ok hd).trans (exec_of_not_wellFormed (s := { s with cmdLast := w }) hi hs)

end Sys2Proof.Machine

/-! ## The network interface's own commands: INIT, ETH_ACQ, ETH_TX and SET_MORE (R400, R403, R404, R405) -/

namespace Sys2Proof.Machine

/-! ### Accepting a command (R803) -/

theorem State.command_of_accepted {s : State} {checks : List (Bool × CmdError)} (h : firstError checks = none)
    (run : State → State) : s.command checks run = .next (run s) := by
  simp [State.command, h]

/-- R803 item 1: outside a hold the first check of a nested command passes. -/
theorem State.firstError_nestedChecks_append {s : State} (hb : s.isHeld = false) (checks : List (Bool × CmdError)) :
    firstError (s.nestedChecks ++ checks) = firstError checks := by
  simp [State.nestedChecks, firstError, hb]

theorem State.firstError_nestedChecks {s : State} (hb : s.isHeld = false) : firstError s.nestedChecks = none :=
  State.firstError_nestedChecks_append hb []

theorem State.firstError_outerChecks {s : State} (hs : s.seq = .idle) : firstError s.outerChecks = none :=
  State.firstError_outerChecks_of_idle hs []

/-- R800, R803: a command is rejected as reported when its own checks report what the error table does. -/
theorem rejectedAsReported_of_checks {s : State} {i : Instr} {checks : List (Bool × CmdError)} {run : State → State}
    (hx : exec i s = s.command checks run) (hc : reportedError s i = firstError checks) : RejectedAsReported s i :=
  fun _ he => hx.trans (State.command_of_firstError (hc.symm.trans he) run)

/-! ### INIT (R400) -/

/-- R802, R803: INIT can only be rejected by a hold or by an outstanding callback. -/
theorem reportedError_init (s : State) : reportedError s .init = firstError s.outerChecks := by
  cases hb : s.isHeld <;> cases hc : s.inCallback <;>
    simp [reportedError, errorOrder, errorApplies, State.outerChecks, firstError, hb, hc, inNestedSet,
      Instr.wellFormed, boundOperand, rangeApplies]

theorem exec_init (s : State) :
    exec .init s = s.command s.outerChecks fun s => s.initialise.rearm.complete 0 := rfl

/-! ### The Ethernet header (R320, R403) -/

/-- R403: the 14 bytes `EthAcquire(et)` writes for a nonzero EtherType. -/
def State.ethHeaderBytes (s : State) (et : Half) : List Byte :=
  Memory.bytes s.mem (rxBase + 6) 6 ++ macBytes s.mac ++ be16 et

theorem State.ethAcquire_zero (s : State) : s.ethAcquire 0 = s := rfl

theorem State.ethAcquire_of_ne_zero {et : Half} (h : et ≠ 0) (s : State) :
    s.ethAcquire et = s.txPuts 0 (s.ethHeaderBytes et) := if_neg h

@[simp] theorem length_macBytes (m : BitVec 48) : (macBytes m).length = 6 := rfl

@[simp] theorem length_be16 (v : Half) : (be16 v).length = 2 := rfl

@[simp] theorem State.length_ethHeaderBytes (s : State) (et : Half) : (s.ethHeaderBytes et).length = 14 := by
  simp [State.ethHeaderBytes]

/-- R115: byte `k` of the address is its base-256 digit `5 - k`. -/
theorem toNat_getD_macBytes (m : BitVec 48) {k : Nat} (hk : k < 6) :
    ((macBytes m).getD k 0).toNat = m.toNat / 256 ^ (5 - k) % 256 := by
  interval_cases k <;> simp [macBytes, Nat.shiftRight_eq_div_pow]

/-- R22: the two bytes of a big-endian half read back as the half. -/
theorem append_getD_be16 (v : Half) : ((be16 v).getD 0 0 ++ (be16 v).getD 1 0 : Half) = v :=
  (BitVec.extractLsb'_append_extractLsb'_eq_extractLsb' rfl).trans BitVec.extractLsb'_eq_self

theorem State.getD_ethHeaderBytes_dest (s : State) (et : Half) {k : Nat} (hk : k < 6) :
    (s.ethHeaderBytes et).getD k 0 = s.rx8 (6 + k) := by
  rw [State.ethHeaderBytes, List.append_assoc, List.getD_append _ _ _ _ (by simpa using hk),
    Memory.getD_bytes _ _ _ _ hk, State.rx8, Nat.add_assoc]

theorem State.getD_ethHeaderBytes_src (s : State) (et : Half) {k : Nat} (hk : k < 6) :
    (s.ethHeaderBytes et).getD (6 + k) 0 = (macBytes s.mac).getD k 0 := by
  rw [State.ethHeaderBytes, List.append_assoc, List.getD_append_right _ _ _ _ (by simp), Memory.length_bytes,
    Nat.add_sub_cancel_left, List.getD_append _ _ _ _ (by simpa using hk)]

theorem State.getD_ethHeaderBytes_etherType (s : State) (et : Half) (k : Nat) :
    (s.ethHeaderBytes et).getD (12 + k) 0 = (be16 et).getD k 0 := by
  rw [State.ethHeaderBytes, List.getD_append_right _ _ _ _ (by simp)]
  simp

/-! ### `EthAcquire` (R403) -/

/-- R403: the header stands at TXBUF[0..13] and every other byte is kept. -/
theorem State.read_ethAcquire {s : State} (hs : s.Ok) {et : Half} (h : et ≠ 0) (a : Nat) :
    Memory.read (s.ethAcquire et).mem a =
      if 0x8000 ≤ a ∧ a < 0x800E then (s.ethHeaderBytes et).getD (a - 0x8000) 0 else Memory.read s.mem a := by
  obtain ⟨⟨-, -, -, htx, -⟩, hm⟩ := hs
  rw [State.ethAcquire_of_ne_zero h, State.read_txPuts _ s hm 0 (by simp; omega), State.length_ethHeaderBytes]
  rfl

theorem State.read_ethAcquire_of_outside {s : State} (hs : s.Ok) {et : Half} {a : Nat}
    (ha : et = 0 ∨ a < 0x8000 ∨ 0x800E ≤ a) : Memory.read (s.ethAcquire et).mem a = Memory.read s.mem a := by
  by_cases h : et = 0
  · rw [h, State.ethAcquire_zero]
  · have outside := ha.resolve_left h
    rw [State.read_ethAcquire hs h, if_neg (by omega)]

theorem State.tx8_ethAcquire {s : State} (hs : s.Ok) {et : Half} (h : et ≠ 0) {k : Nat} (hk : k < 14) :
    (s.ethAcquire et).tx8 k = (s.ethHeaderBytes et).getD k 0 := by
  rw [State.tx8, State.read_ethAcquire hs h, if_pos (by simp only [txBase]; omega), txBase, Nat.add_sub_cancel_left]

theorem State.ethHeader_ethAcquire {s : State} (hs : s.Ok) {et : Half} (h : et ≠ 0) :
    EthHeader s (s.ethAcquire et) et where
  dest k hk := by rw [State.tx8_ethAcquire hs h (by omega), State.getD_ethHeaderBytes_dest s et hk]
  src k hk := by
    rw [State.tx8_ethAcquire hs h (by omega), State.getD_ethHeaderBytes_src s et hk, toNat_getD_macBytes _ hk]
  etherType := by
    have high : (s.ethAcquire et).tx8 12 = (be16 et).getD 0 0 := by
      rw [State.tx8_ethAcquire hs h (by decide), ← State.getD_ethHeaderBytes_etherType s et 0]
    have low : (s.ethAcquire et).tx8 13 = (be16 et).getD 1 0 := by
      rw [State.tx8_ethAcquire hs h (by decide), ← State.getD_ethHeaderBytes_etherType s et 1]
    calc (s.ethAcquire et).tx16 12 = (s.ethAcquire et).tx8 12 ++ (s.ethAcquire et).tx8 13 := rfl
      _ = et := by rw [high, low, append_getD_be16]

/-- R231, R403: building a header over a frame in flight sets the fault bit, building none does not. -/
theorem State.fTxOverwrite_ethAcquire {s : State} (hs : s.cfg.wf) (et : Half) :
    (s.ethAcquire et).fTxOverwrite = (s.fTxOverwrite || (et != 0 && s.txProto != 0)) := by
  obtain ⟨-, -, -, htx, -⟩ := hs
  by_cases h : et = 0
  · rw [h, State.ethAcquire_zero, bne_self_eq_false, Bool.false_and, Bool.or_false]
  · have hlen := s.length_ethHeaderBytes et
    rw [State.ethAcquire_of_ne_zero h]
    cases hb : s.ethHeaderBytes et with
    | nil => simp [hb] at hlen
    | cons v vs =>
      rw [hb, List.length_cons] at hlen
      rw [State.fTxOverwrite_txPuts v vs s 0 (by omega), bne_iff_ne.2 h, Bool.true_and, State.txBusy]

theorem exec_ethAcq {s : State} (hb : s.isHeld = false) (et : Half) :
    exec (.ethAcq et) s = .next ((s.ethAcquire et).complete 0x800E) := by
  rw [exec, execEthAcq, State.command_of_accepted (State.firstError_nestedChecks hb)]
  rfl

/-! ### `EthTransmit` and ETH_TX (R404) -/

theorem State.etherTypeZero_iff (s : State) : s.etherTypeZero = true ↔ s.tx16 12 = 0 := beq_iff_eq

theorem State.ethTransmit_of_etherType_zero {s : State} (h : s.tx16 12 = 0) (n : Nat) :
    s.ethTransmit n = s.log .txEtype0 0 := if_pos (s.etherTypeZero_iff.2 h)

theorem State.ethTransmit_of_etherType_ne_zero {s : State} (h : s.tx16 12 ≠ 0) (n : Nat) :
    s.ethTransmit n = s.handOver n := if_neg (mt s.etherTypeZero_iff.1 h)

/-- R122: the length of a frame with a 16-bit payload length, in the 16 bits of TX_LEN. -/
theorem ofNat_ethHeader_add_toNat (n : Half) : BitVec.ofNat 16 (ethHeader + n.toNat) = 14 + n := by
  rw [BitVec.ofNat_add, BitVec.ofNat_toNat, BitVec.setWidth_eq]
  rfl

/-- R803: outside a hold ETH_TX checks its range and then the EtherType. -/
theorem exec_ethTx {s : State} (hb : s.isHeld = false) (n : Half) :
    exec (.ethTx n) s =
      s.command [(s.txTooLong (14 + n.toNat), .range), (s.etherTypeZero, .etype0)]
        fun s => (s.ethTransmit n.toNat).complete 0 := by
  simp only [exec, execEthTx, State.command, State.firstError_nestedChecks_append hb, ethHeader]

theorem State.txTooLong_iff (s : State) (n : Nat) : s.txTooLong n = true ↔ s.cfg.txBufSize < n := decide_eq_true_iff

/-! ### SET_MORE (R405) -/

theorem exec_setMore {s : State} (hb : s.isHeld = false) (register : Bool) :
    exec (.setMore register) s = .next (State.complete { s with moreCb := register } 0) := by
  rw [exec, execSetMore, State.command_of_accepted (State.firstError_nestedChecks hb)]

/-! ### The statements -/

/-- Settles O28: R403 by the bytes `EthAcquire` writes and those it keeps. -/
theorem ethAcqBuilds : Obligations.EthAcqBuilds := by
  intro s et hs hb
  refine ⟨_, exec_ethAcq hb et, ?_, fun h => ?_, fun a ha => State.read_ethAcquire_of_outside hs ha⟩
  · have rest := (State.ethAcquire_txOnly s et).rest
    rw [State.fTxOverwrite_ethAcquire hs.1] at rest
    exact congrArg (State.complete · 0x800E) rest
  · obtain ⟨dest, src, etherType⟩ := State.ethHeader_ethAcquire hs h
    exact ⟨dest, src, etherType⟩

/-- Settles O29: R404 by the two outcomes of `EthTransmit` and the order of the two checks before it. -/
theorem ethTxHandsOver : Obligations.EthTxHandsOver := by
  intro s n handed
  have handOver_eq : s.handOver n.toNat = handed := by
    rw [State.handOver, ofNat_ethHeader_add_toNat]
    rfl
  refine ⟨fun h => State.ethTransmit_of_etherType_zero h _,
    fun h => (State.ethTransmit_of_etherType_ne_zero h _).trans handOver_eq, fun hb => ?_⟩
  rw [exec_ethTx hb]
  refine ⟨fun hlen => ?_, fun hlen hz => ?_, fun hlen hnz => ?_⟩
  · exact State.command_of_firstError (by simp [firstError, State.txTooLong_iff, hlen]) _
  · have hcheck : s.etherTypeZero = true := s.etherTypeZero_iff.2 hz
    exact State.command_of_firstError (by simp [firstError, State.txTooLong_iff, hlen.not_gt, hcheck]) _
  · have hcheck : s.etherTypeZero = false := Bool.eq_false_iff.2 (mt s.etherTypeZero_iff.1 hnz)
    rw [State.command_of_accepted (by simp [firstError, State.txTooLong_iff, hlen.not_gt, hcheck]),
      State.ethTransmit_of_etherType_ne_zero hnz, handOver_eq]
    rfl

/-- Settles O25: R400 by INIT's two checks, and by what it writes once they pass. -/
theorem initZeroes : Obligations.InitZeroes := fun s =>
  ⟨rejectedAsReported_of_checks (exec_init s) (reportedError_init s),
    fun hs => (exec_init s).trans (State.command_of_accepted (State.firstError_outerChecks hs) _)⟩

/-- Settles O30: R405 by SET_MORE's only check, and R303 by the decoder's mask for OPC 0x05. -/
theorem setMoreWrites : Obligations.SetMoreWrites := by
  intro s hb
  refine ⟨exec_setMore hb, fun w hop himm => ?_⟩
  have hlegal : opcField w ∈ legalOpcodes := by rw [hop]; decide
  have hrsv : reservedBitsSet w = true := by rw [reservedBitsSet, hop, bne_iff_ne.2 himm]; simp
  exact State.issue_of_decode_error ((decode_eq_rsvBits_iff hlegal).2 hrsv) hb

end Sys2Proof.Machine

/-! ## ARP: the reply to a request for LOCAL_IP (R325, R450 to R454) -/

namespace Sys2Proof.Machine

/-! ### The bytes of the reply (R325) -/

/-- R452: the 28 bytes of the ARP packet that answers the request in RXBUF. -/
def State.arpPacketBytes (s : State) : List Byte :=
  arpReplyBytes s.mac s.cfg.localIp (Memory.bytes s.mem (rxBase + 22) 6) (Memory.bytes s.mem (rxBase + 28) 4)

@[simp] theorem State.length_arpPacketBytes (s : State) : s.arpPacketBytes.length = 28 := rfl

/-- R22: the four bytes of a big-endian word read back as the word. -/
theorem append_getD_be32 (v : Word) :
    (((be32 v).getD 0 0 ++ (be32 v).getD 1 0 : Half) ++
      ((be32 v).getD 2 0 ++ (be32 v).getD 3 0 : Half) : Word) = v := by
  have high : ((be32 v).getD 0 0 ++ (be32 v).getD 1 0 : Half) = v.extractLsb' 16 16 :=
    BitVec.extractLsb'_append_extractLsb'_eq_extractLsb' rfl
  have low : ((be32 v).getD 2 0 ++ (be32 v).getD 3 0 : Half) = v.extractLsb' 0 16 :=
    BitVec.extractLsb'_append_extractLsb'_eq_extractLsb' rfl
  rw [high, low]
  exact (BitVec.extractLsb'_append_extractLsb'_eq_extractLsb' rfl).trans BitVec.extractLsb'_eq_self

theorem State.getD_arpPacketBytes_senderHardware (s : State) {k : Nat} (hk : k < 6) :
    s.arpPacketBytes.getD (8 + k) 0 = (macBytes s.mac).getD k 0 := by
  interval_cases k <;> rfl

theorem State.getD_arpPacketBytes_targetHardware (s : State) {k : Nat} (hk : k < 6) :
    s.arpPacketBytes.getD (18 + k) 0 = s.rx8 (22 + k) := by
  interval_cases k <;> rfl

/-! ### The frame in the TX buffer (R452) -/

/-- R452: the state when the reply stands in the TX buffer and is not handed over yet. -/
def State.arpBuilt (s : State) : State := (s.ethAcquire etherTypeArp).txPuts ethHeader s.arpPacketBytes

theorem State.arpBuilt_txOnly (s : State) : TxOnly s s.arpBuilt :=
  (s.ethAcquire_txOnly etherTypeArp).trans (State.txPuts_txOnly _ _ _)

theorem TxOnly.txBusy {s t : State} (h : TxOnly s t) : t.txBusy = s.txBusy := by
  rw [h.rest, State.txBusy, State.txBusy]

theorem State.read_arpBuilt {s : State} (hs : s.Ok) (a : Nat) :
    Memory.read s.arpBuilt.mem a =
      if 0x800E ≤ a ∧ a < 0x802A then s.arpPacketBytes.getD (a - 0x800E) 0
      else Memory.read (s.ethAcquire etherTypeArp).mem a := by
  obtain ⟨⟨-, -, -, htx, -⟩, hm⟩ := hs
  rw [State.arpBuilt, State.read_txPuts _ _ ((s.ethAcquire_txOnly _).wf hm) _
    (by rw [(s.ethAcquire_txOnly _).cfg, State.length_arpPacketBytes, ethHeader]; omega), State.length_arpPacketBytes]
  rfl

theorem State.read_arpBuilt_of_outside {s : State} (hs : s.Ok) {a : Nat} (ha : a < 0x8000 ∨ 0x802A ≤ a) :
    Memory.read s.arpBuilt.mem a = Memory.read s.mem a := by
  rw [State.read_arpBuilt hs, if_neg (by omega), State.read_ethAcquire_of_outside hs (by omega)]

/-- The ARP packet leaves the Ethernet header before it as it stands. -/
theorem State.tx8_arpBuilt_of_header {s : State} (hs : s.Ok) {k : Nat} (hk : k < 14) :
    s.arpBuilt.tx8 k = (s.ethAcquire etherTypeArp).tx8 k := by
  rw [State.tx8, State.read_arpBuilt hs, if_neg (by simp only [txBase]; omega), State.tx8]

theorem State.tx8_arpBuilt {s : State} (hs : s.Ok) {j : Nat} (hj : j < 28) :
    s.arpBuilt.tx8 (14 + j) = s.arpPacketBytes.getD j 0 := by
  rw [State.tx8, txBase, ← Nat.add_assoc, State.read_arpBuilt hs, if_pos (by omega), Nat.add_sub_cancel_left]

theorem State.tx16_arpBuilt {s : State} (hs : s.Ok) {j : Nat} (hj : j + 1 < 28) :
    s.arpBuilt.tx16 (14 + j) = s.arpPacketBytes.getD j 0 ++ s.arpPacketBytes.getD (j + 1) 0 := by
  rw [← State.tx8_arpBuilt hs (by omega), ← State.tx8_arpBuilt hs hj]
  rfl

theorem State.tx32_arpBuilt {s : State} (hs : s.Ok) {j : Nat} (hj : j + 3 < 28) :
    s.arpBuilt.tx32 (14 + j) =
      (s.arpPacketBytes.getD j 0 ++ s.arpPacketBytes.getD (j + 1) 0 : Half) ++
        (s.arpPacketBytes.getD (j + 2) 0 ++ s.arpPacketBytes.getD (j + 3) 0 : Half) := by
  rw [← State.tx16_arpBuilt hs (by omega), ← State.tx16_arpBuilt hs hj]
  rfl

/-- An Ethernet header is its 14 bytes. -/
theorem EthHeader.of_tx8 {s t u : State} {et : Half} (h : EthHeader s t et) (hu : ∀ k < 14, u.tx8 k = t.tx8 k) :
    EthHeader s u et where
  dest k hk := (hu k (by omega)).trans (h.dest k hk)
  src k hk := by rw [hu (6 + k) (by omega), h.src k hk]
  etherType := calc
    u.tx16 12 = u.tx8 12 ++ u.tx8 13 := rfl
    _ = t.tx16 12 := by rw [hu 12 (by decide), hu 13 (by decide)]; rfl
    _ = et := h.etherType

theorem State.ethHeader_arpBuilt {s : State} (hs : s.Ok) : EthHeader s s.arpBuilt etherTypeArp :=
  (State.ethHeader_ethAcquire hs (by decide)).of_tx8 fun _ => State.tx8_arpBuilt_of_header hs

theorem State.arpReplyFields_arpBuilt {s : State} (hs : s.Ok) : ArpReplyFields s s.arpBuilt where
  hardware := (State.tx16_arpBuilt hs (j := 0) (by decide)).trans (append_getD_be16 arpHardwareType)
  protocol := (State.tx16_arpBuilt hs (j := 2) (by decide)).trans (append_getD_be16 arpProtocolType)
  lengths := ⟨State.tx8_arpBuilt hs (j := 4) (by decide), State.tx8_arpBuilt hs (j := 5) (by decide)⟩
  opcode := (State.tx16_arpBuilt hs (j := 6) (by decide)).trans (append_getD_be16 arpReplyOpcode)
  senderHardware k hk := by
    rw [show 22 + k = 14 + (8 + k) by omega, State.tx8_arpBuilt hs (by omega),
      State.getD_arpPacketBytes_senderHardware s hk, toNat_getD_macBytes _ hk]
  senderProtocol := (State.tx32_arpBuilt hs (j := 14) (by decide)).trans (append_getD_be32 s.cfg.localIp)
  targetHardware k hk := by
    rw [show 32 + k = 14 + (18 + k) by omega, State.tx8_arpBuilt hs (by omega),
      State.getD_arpPacketBytes_targetHardware s hk]
  targetProtocol := State.tx32_arpBuilt hs (j := 24) (by decide)

/-- R231: building the reply over a frame in flight sets the fault bit. -/
theorem State.fTxOverwrite_arpBuilt {s : State} (hs : s.cfg.wf) :
    s.arpBuilt.fTxOverwrite = (s.fTxOverwrite || s.txProto != 0) := by
  have header := State.fTxOverwrite_ethAcquire hs etherTypeArp
  obtain ⟨-, -, -, htx, -⟩ := hs
  cases hb : s.arpPacketBytes with
  | nil => cases hb
  | cons v vs =>
    have hlen : vs.length + 1 = 28 := by rw [← s.length_arpPacketBytes, hb, List.length_cons]
    have fits : ethHeader + (vs.length + 1) ≤ (s.ethAcquire etherTypeArp).cfg.txBufSize := by
      rw [(s.ethAcquire_txOnly _).cfg, ethHeader]
      omega
    rw [State.arpBuilt, hb, State.fTxOverwrite_txPuts v vs _ _ fits, header, (s.ethAcquire_txOnly _).txBusy,
      Bool.or_assoc]
    exact congrArg _ (Bool.or_self _)

/-! ### The reply (R451, R452, R454) -/

/-- R452, R404: the reply is handed over at once, whatever TX_PROTO is. -/
theorem State.arpReply_eq_handOver {s : State} (hs : s.Ok) : s.arpReply = s.arpBuilt.handOver arpPacket := by
  have etherType := (State.ethHeader_arpBuilt hs).etherType
  exact State.ethTransmit_of_etherType_ne_zero (etherType.trans_ne (by decide)) _

theorem State.mem_arpReply {s : State} (hs : s.Ok) : s.arpReply.mem = s.arpBuilt.mem := by
  rw [State.arpReply_eq_handOver hs, State.handOver_mem]

theorem State.txProto_arpReply {s : State} (hs : s.Ok) : s.arpReply.txProto = 0x0806 := by
  rw [State.arpReply_eq_handOver hs, State.handOver_txProto, (State.ethHeader_arpBuilt hs).etherType, etherTypeArp]

theorem State.txLen_arpReply {s : State} (hs : s.Ok) : s.arpReply.txLen = 42 := by
  rw [State.arpReply_eq_handOver hs, State.handOver_txLen]
  rfl

/-- R231: the fault bit is set while the reply is built, so the hand-over adds nothing to it. -/
theorem State.fTxOverwrite_arpReply {s : State} (hs : s.Ok) :
    s.arpReply.fTxOverwrite = (s.fTxOverwrite || s.txProto != 0) := by
  rw [State.arpReply_eq_handOver hs, State.handOver_fTxOverwrite, State.fTxOverwrite_arpBuilt hs.1,
    s.arpBuilt_txOnly.txBusy, State.txBusy, Bool.or_assoc, Bool.or_self]

theorem State.trace_arpReply {s : State} (hs : s.Ok) :
    s.arpReply.trace = s.trace ++ [.frameSent (Memory.bytes s.arpReply.mem 0x8000 42) 42] := by
  have traceBuilt : s.arpBuilt.trace = s.trace := by rw [s.arpBuilt_txOnly.rest]
  rw [State.mem_arpReply hs, State.arpReply_eq_handOver hs, State.handOver_trace, traceBuilt, txBase, ethHeader,
    arpPacket]

/-- R452: all that the reply changes. -/
theorem State.arpReply_eq {s : State} (hs : s.Ok) :
    s.arpReply = { s with
      mem := s.arpReply.mem, fTxOverwrite := s.fTxOverwrite || s.txProto != 0, txProto := 0x0806, txLen := 42
      trace := s.arpReply.trace } := by
  have rest := s.arpReply_sendOnly.rest
  rwa [State.fTxOverwrite_arpReply hs, State.txProto_arpReply hs, State.txLen_arpReply hs] at rest

/-- The reply is sent in every state that has its memory, its busy buffer and its one event, however the command that
sent it ends. -/
theorem State.arpReplySent_of_built {s t : State} {after : List Event} (hs : s.Ok) (mem : t.mem = s.arpBuilt.mem)
    (txProto : t.txProto = 0x0806) (txLen : t.txLen = 42)
    (trace : t.trace = s.trace ++ .frameSent (Memory.bytes t.mem 0x8000 42) 42 :: after) : ArpReplySent s t after := by
  have tx8 : ∀ k, t.tx8 k = s.arpBuilt.tx8 k := fun k => by rw [State.tx8, mem, State.tx8]
  have tx16 : ∀ k, t.tx16 k = s.arpBuilt.tx16 k := fun k => by rw [State.tx16, mem, State.tx16]
  have tx32 : ∀ k, t.tx32 k = s.arpBuilt.tx32 k := fun k => by rw [State.tx32, mem, State.tx32]
  have eth := (State.ethHeader_arpBuilt hs).of_tx8 fun k _ => tx8 k
  have fields := State.arpReplyFields_arpBuilt hs
  refine ⟨eth, ?_, ⟨trace, txProto.trans eth.etherType.symm, by rw [txLen]; rfl⟩, fun a ha => ?_⟩
  · constructor <;> simp only [tx8, tx16, tx32]
    exacts [fields.hardware, fields.protocol, fields.lengths, fields.opcode, fields.senderHardware,
      fields.senderProtocol, fields.targetHardware, fields.targetProtocol]
  · rw [mem, State.read_arpBuilt_of_outside hs ha]

theorem State.arpHandle_of_request {s : State} {n : Nat} (h : s.ArpRequestForUs n) :
    s.arpHandle n = (1, s.arpReply) := by
  obtain ⟨hlen, hardware, protocol, opcode, target⟩ := h
  rw [State.arpHandle, if_neg (by rw [arpPacket]; omega), if_neg (by rw [hardware, protocol]; decide),
    if_neg (by rw [opcode]; decide), if_neg (not_not_intro target)]

/-- R450, R803: in the idle block ARP_RX answers every packet that fits RXBUF. -/
theorem exec_arpRx {s : State} {n : Half} (hi : s.seq = .idle) (hlen : 14 + n.toNat ≤ s.cfg.rxBufSize) :
    exec (.arpRx n) s = .next ((s.arpHandle n.toNat).2.complete (s.arpHandle n.toNat).1) := by
  rw [exec, execArpRx, State.command_of_accepted]
  rw [State.firstError_outerChecks_of_idle hi]
  simp [firstError, State.rxTooLong, ethHeader, hlen.not_gt]

/-- Settles O31: R452 by the bytes of the reply in the TX buffer and the state its hand-over leaves. -/
theorem arpRequestAnswered : Obligations.ArpRequestAnswered := by
  intro s n hs hi hlen hreq
  refine ⟨s.arpReply.complete 1, ?_, ?_, congrArg (State.complete · 1) (State.arpReply_eq hs)⟩
  · rw [exec_arpRx hi hlen, State.arpHandle_of_request hreq]
  · exact State.arpReplySent_of_built hs (State.mem_arpReply hs) (State.txProto_arpReply hs) (State.txLen_arpReply hs)
      (State.trace_arpReply hs)

end Sys2Proof.Machine

/-! ## The checksum unit: CSUM (R500, R501, R502) -/

namespace Sys2Proof.Machine

/-! ### The accumulator and its fold (R500) -/

/-- R205: the number a big-endian pair of bytes spells, in the 32 bits of the accumulator. -/
theorem toNat_setWidth_append_byte (hi lo : Byte) :
    (BitVec.setWidth 32 (hi ++ lo)).toNat = hi.toNat * 256 + lo.toNat := by
  have pair : (hi ++ lo).toNat = hi.toNat * 256 + lo.toNat := by
    rw [BitVec.toNat_append, ← Nat.shiftLeft_add_eq_or_of_lt lo.isLt, Nat.shiftLeft_eq]
  rw [BitVec.toNat_setWidth_of_le (by decide), pair]

/-- R500, R502: the accumulator loses nothing of the exact sum but multiples of 2^32. -/
theorem toNat_checksumAcc (acc : Word) (bs : List Byte) :
    (checksumAcc acc bs).toNat = (acc.toNat + wordSum bs) % 2 ^ 32 := by
  induction acc, bs using checksumAcc.induct with
  | case1 acc => exact (Nat.mod_eq_of_lt acc.isLt).symm
  | case2 acc b =>
    rw [checksumAcc, wordSum, BitVec.toNat_add, toNat_setWidth_append_byte, BitVec.toNat_ofNat, Nat.zero_mod,
      Nat.add_zero]
  | case3 acc b0 b1 rest ih =>
    rw [checksumAcc, wordSum, ih, BitVec.toNat_add, toNat_setWidth_append_byte, Nat.mod_add_mod, Nat.add_assoc]

/-- R502: the fold of the accumulator in closed form. -/
theorem toNat_foldCarries (acc : Word) : (foldCarries acc).toNat = onesFold acc.toNat := foldCarries_toNat acc

/-- R500, R502: what the checksum primitive answers. -/
theorem State.toNat_checksum (s : State) (seed : Word) (a n : Nat) :
    (s.checksum seed a n).toNat = onesFold ((seed.toNat + wordSum (Memory.bytes s.mem a n)) % 2 ^ 32) := by
  rw [State.checksum, toNat_foldCarries, toNat_checksumAcc]

/-! ### The command (R501) -/

/-- R501: the address is ARG1[15:0]. -/
theorem State.csumAddr_eq (s : State) : s.csumAddr = s.arg1.toNat % 65536 := loHalf_toNat s.arg1

/-- R501, R803: outside a hold CSUM checks only its range. -/
theorem exec_csum {s : State} (hb : s.isHeld = false) (n : Half) :
    exec (.csum n) s =
      s.command [(!s.inRange s.csumAddr n.toNat, .range)]
        fun s => s.complete (BitVec.setWidth 32 (s.checksum s.csumSeed s.csumAddr n.toNat)) := by
  simp only [exec, execCsum, State.command, State.firstError_nestedChecks_append hb]

/-- Settles O33: R501 by CSUM's two outcomes, and the answer by the closed forms of the accumulator and its fold. -/
theorem csumResult : Obligations.CsumResult := by
  intro s n hb
  rw [exec_csum hb, State.csumAddr_eq]
  refine ⟨fun out => ?_, fun within => ?_⟩
  · exact State.command_of_firstError (by simp [firstError, out]) _
  · rw [State.command_of_accepted (by simp [firstError, within]), ← BitVec.ofNat_toNat, State.toNat_checksum,
      State.csumAddr_eq]
    rfl

end Sys2Proof.Machine

/-! ## The IPv4 header builder: IP_ACQ and IP_TX (R330, R555, R556, R560, R561) -/

namespace Sys2Proof.Machine

/-! ### Reading what was written to the TX buffer (R22, R231) -/

theorem TxOnly.ok {s t : State} (h : TxOnly s t) (hs : s.Ok) : t.Ok := ⟨h.cfg ▸ hs.1, h.wf hs.2⟩

theorem State.tx16_eq (s : State) (k : Nat) : s.tx16 k = s.tx8 k ++ s.tx8 (k + 1) := rfl

theorem State.tx32_eq (s : State) (k : Nat) : s.tx32 k = s.tx16 k ++ s.tx16 (k + 2) := rfl

theorem State.tx16_congr {s t : State} {k : Nat} (h : ∀ j < 2, t.tx8 (k + j) = s.tx8 (k + j)) :
    t.tx16 k = s.tx16 k := by
  rw [State.tx16_eq, State.tx16_eq, h 1 (by decide)]
  exact congrArg (· ++ _) (h 0 (by decide))

theorem State.tx32_congr {s t : State} {k : Nat} (h : ∀ j < 4, t.tx8 (k + j) = s.tx8 (k + j)) :
    t.tx32 k = s.tx32 k := by
  rw [State.tx32_eq, State.tx32_eq, State.tx16_congr fun j hj => h j (by omega),
    State.tx16_congr (k := k + 2) fun j hj => by simpa only [Nat.add_assoc] using h (2 + j) (by omega)]

@[simp] theorem State.tx8_complete (s : State) (r : Word) (k : Nat) : (s.complete r).tx8 k = s.tx8 k := by
  rw [State.tx8, State.complete_mem, State.tx8]

@[simp] theorem State.tx16_complete (s : State) (r : Word) (k : Nat) : (s.complete r).tx16 k = s.tx16 k := by
  rw [State.tx16, State.complete_mem, State.tx16]

section Written

variable {s : State} {k : Nat} {vs : List Byte}

theorem State.tx8_txPuts (hs : s.Ok) (fits : k + vs.length ≤ s.cfg.txBufSize) {j : Nat} (hj : j < vs.length) :
    (s.txPuts k vs).tx8 (k + j) = vs.getD j 0 := by
  rw [State.tx8, State.read_txPuts vs s hs.2 k fits, if_pos (by omega), ← Nat.add_assoc, Nat.add_sub_cancel_left]

theorem State.tx16_txPuts (hs : s.Ok) (fits : k + vs.length ≤ s.cfg.txBufSize) {j : Nat} (hj : j + 1 < vs.length) :
    (s.txPuts k vs).tx16 (k + j) = vs.getD j 0 ++ vs.getD (j + 1) 0 := by
  rw [State.tx16_eq, Nat.add_assoc, State.tx8_txPuts hs fits (by omega), State.tx8_txPuts hs fits hj]

theorem State.tx32_txPuts (hs : s.Ok) (fits : k + vs.length ≤ s.cfg.txBufSize) {j : Nat} (hj : j + 3 < vs.length) :
    (s.txPuts k vs).tx32 (k + j) =
      (vs.getD j 0 ++ vs.getD (j + 1) 0 : Half) ++ (vs.getD (j + 2) 0 ++ vs.getD (j + 3) 0 : Half) := by
  rw [State.tx32_eq, Nat.add_assoc, State.tx16_txPuts hs fits (by omega), State.tx16_txPuts hs fits (by omega)]

theorem State.tx16_txPuts_be16 (hs : s.Ok) (fits : k + 2 ≤ s.cfg.txBufSize) (v : Half) :
    (s.txPuts k (be16 v)).tx16 k = v :=
  (State.tx16_txPuts hs fits (j := 0) (by simp)).trans (append_getD_be16 v)

theorem State.read_txPuts_of_outside (hs : s.Ok) (fits : k + vs.length ≤ s.cfg.txBufSize) {a : Nat}
    (ha : a < txBase + k ∨ txBase + k + vs.length ≤ a) : Memory.read (s.txPuts k vs).mem a = Memory.read s.mem a := by
  rw [State.read_txPuts vs s hs.2 k fits, if_neg (by omega)]

theorem State.tx8_txPuts_of_outside (hs : s.Ok) (fits : k + vs.length ≤ s.cfg.txBufSize) {j : Nat}
    (hj : j < k ∨ k + vs.length ≤ j) : (s.txPuts k vs).tx8 j = s.tx8 j :=
  State.read_txPuts_of_outside hs fits (by omega)

/-- R231: a write of at least one byte sets the fault bit when a frame is in flight. -/
theorem State.fTxOverwrite_txPuts_of_ne_nil (hv : vs ≠ []) (fits : k + vs.length ≤ s.cfg.txBufSize) :
    (s.txPuts k vs).fTxOverwrite = (s.fTxOverwrite || s.txProto != 0) := by
  obtain ⟨v, rest, rfl⟩ := List.exists_cons_of_ne_nil hv
  exact State.fTxOverwrite_txPuts v rest s k fits

/-- R231: once building has noted the frame in flight, a further write notes nothing more. -/
theorem TxOnly.fTxOverwrite_txPuts {t : State} (h : TxOnly s t)
    (noted : t.fTxOverwrite = (s.fTxOverwrite || s.txProto != 0)) (hv : vs ≠ [])
    (fits : k + vs.length ≤ s.cfg.txBufSize) :
    (t.txPuts k vs).fTxOverwrite = (s.fTxOverwrite || s.txProto != 0) := by
  have busy : (t.txProto != 0) = (s.txProto != 0) := h.txBusy
  rw [State.fTxOverwrite_txPuts_of_ne_nil hv (h.cfg ▸ fits), noted, busy, Bool.or_assoc, Bool.or_self]

end Written

/-! ### `IpAcquire` (R556) -/

@[simp] theorem length_ipv4HeaderBytes (src dest : Word) (proto : Byte) :
    (ipv4HeaderBytes src dest proto).length = 20 := rfl

/-- R17: the Ethernet and the IPv4 header fit every TX buffer. -/
theorem ipv4Header_fits {c : Config} (hc : c.wf) : ethHeader + 20 ≤ c.txBufSize := by
  obtain ⟨-, -, -, htx, -⟩ := hc
  rw [ethHeader]
  omega

section Acquire

variable {s : State} (dest : Word) (proto : Byte)

theorem State.tx8_ipAcquire (hs : s.Ok) {j : Nat} (hj : j < 20) :
    (s.ipAcquire dest proto).tx8 (14 + j) = (ipv4HeaderBytes s.cfg.localIp dest proto).getD j 0 :=
  have eth := s.ethAcquire_txOnly etherTypeIpv4
  State.tx8_txPuts (eth.ok hs) (ipv4Header_fits (eth.ok hs).1) hj

theorem State.tx16_ipAcquire (hs : s.Ok) {j : Nat} (hj : j + 1 < 20) :
    (s.ipAcquire dest proto).tx16 (14 + j) =
      (ipv4HeaderBytes s.cfg.localIp dest proto).getD j 0 ++
        (ipv4HeaderBytes s.cfg.localIp dest proto).getD (j + 1) 0 :=
  have eth := s.ethAcquire_txOnly etherTypeIpv4
  State.tx16_txPuts (eth.ok hs) (ipv4Header_fits (eth.ok hs).1) hj

theorem State.tx32_ipAcquire (hs : s.Ok) {j : Nat} (hj : j + 3 < 20) :
    (s.ipAcquire dest proto).tx32 (14 + j) =
      ((ipv4HeaderBytes s.cfg.localIp dest proto).getD j 0 ++
          (ipv4HeaderBytes s.cfg.localIp dest proto).getD (j + 1) 0 : Half) ++
        ((ipv4HeaderBytes s.cfg.localIp dest proto).getD (j + 2) 0 ++
          (ipv4HeaderBytes s.cfg.localIp dest proto).getD (j + 3) 0 : Half) :=
  have eth := s.ethAcquire_txOnly etherTypeIpv4
  State.tx32_txPuts (eth.ok hs) (ipv4Header_fits (eth.ok hs).1) hj

/-- The IPv4 header leaves every byte outside it as the Ethernet header's build left it. -/
theorem State.read_ipAcquire (hs : s.Ok) {a : Nat} (ha : a < 0x800E ∨ 0x8022 ≤ a) :
    Memory.read (s.ipAcquire dest proto).mem a = Memory.read (s.ethAcquire etherTypeIpv4).mem a :=
  have eth := s.ethAcquire_txOnly etherTypeIpv4
  State.read_txPuts_of_outside (eth.ok hs) (ipv4Header_fits (eth.ok hs).1) ha

theorem State.read_ipAcquire_of_outside (hs : s.Ok) {a : Nat} (ha : a < 0x8000 ∨ 0x8022 ≤ a) :
    Memory.read (s.ipAcquire dest proto).mem a = Memory.read s.mem a := by
  rw [State.read_ipAcquire dest proto hs (by omega), State.read_ethAcquire_of_outside hs (by omega)]

theorem State.ethHeader_ipAcquire (hs : s.Ok) : EthHeader s (s.ipAcquire dest proto) 0x0800 :=
  (State.ethHeader_ethAcquire hs (et := etherTypeIpv4) (by decide)).of_tx8 fun k hk =>
    State.read_ipAcquire dest proto hs (by rw [txBase]; omega)

theorem State.ipHeaderFields_ipAcquire (hs : s.Ok) : IpHeaderFields s (s.ipAcquire dest proto) dest proto where
  versionIhl := State.tx8_ipAcquire dest proto hs (j := 0) (by decide)
  tos := State.tx8_ipAcquire dest proto hs (j := 1) (by decide)
  ident := (State.tx16_ipAcquire dest proto hs (j := 4) (by decide)).trans (append_getD_be16 0)
  fragment := (State.tx16_ipAcquire dest proto hs (j := 6) (by decide)).trans (append_getD_be16 0)
  ttl := State.tx8_ipAcquire dest proto hs (j := 8) (by decide)
  protocol := State.tx8_ipAcquire dest proto hs (j := 9) (by decide)
  source := (State.tx32_ipAcquire dest proto hs (j := 12) (by decide)).trans (append_getD_be32 s.cfg.localIp)
  destination := (State.tx32_ipAcquire dest proto hs (j := 16) (by decide)).trans (append_getD_be32 dest)

theorem State.totalLength_ipAcquire (hs : s.Ok) : (s.ipAcquire dest proto).tx16 16 = 0 :=
  (State.tx16_ipAcquire dest proto hs (j := 2) (by decide)).trans (append_getD_be16 0)

theorem State.headerChecksum_ipAcquire (hs : s.Ok) : (s.ipAcquire dest proto).tx16 24 = 0 :=
  (State.tx16_ipAcquire dest proto hs (j := 10) (by decide)).trans (append_getD_be16 0)

theorem State.fTxOverwrite_ipAcquire (hs : s.cfg.wf) :
    (s.ipAcquire dest proto).fTxOverwrite = (s.fTxOverwrite || s.txProto != 0) :=
  (s.ethAcquire_txOnly etherTypeIpv4).fTxOverwrite_txPuts (State.fTxOverwrite_ethAcquire hs etherTypeIpv4)
    (List.cons_ne_nil _ _) (ipv4Header_fits hs)

end Acquire

/-- An IPv4 header's fixed fields are its bytes outside the total length and the checksum. -/
theorem IpHeaderFields.of_tx8 {s t u : State} {dest : Word} {proto : Byte} (h : IpHeaderFields s t dest proto)
    (hu : ∀ k, 14 ≤ k → k < 34 → k ∉ [16, 17, 24, 25] → u.tx8 k = t.tx8 k) : IpHeaderFields s u dest proto := by
  have fixed : ∀ k, (14 ≤ k ∧ k < 16) ∨ (18 ≤ k ∧ k < 24) ∨ (26 ≤ k ∧ k < 34) → u.tx8 k = t.tx8 k :=
    fun k hk => hu k (by omega) (by omega) (by simp only [List.mem_cons, List.not_mem_nil, or_false, not_or]; omega)
  exact {
    versionIhl := (fixed 14 (by decide)).trans h.versionIhl
    tos := (fixed 15 (by decide)).trans h.tos
    ident := (State.tx16_congr fun j hj => fixed (18 + j) (by omega)).trans h.ident
    fragment := (State.tx16_congr fun j hj => fixed (20 + j) (by omega)).trans h.fragment
    ttl := (fixed 22 (by decide)).trans h.ttl
    protocol := (fixed 23 (by decide)).trans h.protocol
    source := (State.tx32_congr fun j hj => fixed (26 + j) (by omega)).trans h.source
    destination := (State.tx32_congr fun j hj => fixed (30 + j) (by omega)).trans h.destination }

/-- R555, R803: outside a hold IP_ACQ is always accepted. -/
theorem exec_ipAcq {s : State} (hb : s.isHeld = false) (proto : Byte) :
    exec (.ipAcq proto) s = .next ((s.ipAcquire s.arg0 proto).complete 0x8022) := by
  rw [exec, execIpAcq, State.command_of_accepted (State.firstError_nestedChecks hb)]
  rfl

/-- Settles O35: R555 and R556 by the bytes `IpAcquire` writes and those it keeps, and R303 by the decoder's mask for
OPC 0x21. -/
theorem ipAcqBuilds : Obligations.IpAcqBuilds := by
  intro s hb
  refine ⟨fun hs p => ⟨_, exec_ipAcq hb p, ?_, ?_, ?_, ?_, ?_, fun a ha => ?_⟩, fun w hop himm => ?_⟩
  · have rest := (s.ipAcquire_txOnly s.arg0 p).rest
    rw [State.fTxOverwrite_ipAcquire s.arg0 p hs.1] at rest
    exact congrArg (State.complete · 0x8022) rest
  · exact (State.ethHeader_ipAcquire s.arg0 p hs).of_tx8 fun k _ => State.tx8_complete _ _ k
  · exact (State.ipHeaderFields_ipAcquire s.arg0 p hs).of_tx8 fun k _ _ _ => State.tx8_complete _ _ k
  · rw [State.tx16_complete, State.totalLength_ipAcquire s.arg0 p hs]
  · rw [State.tx16_complete, State.headerChecksum_ipAcquire s.arg0 p hs]
  · rw [State.complete_mem, State.read_ipAcquire_of_outside s.arg0 p hs ha]
  · have hlegal : opcField w ∈ legalOpcodes := by rw [hop]; decide
    have hrsv : reservedBitsSet w = true := by rw [reservedBitsSet, hop, bne_iff_ne.2 himm]; simp
    exact State.issue_of_decode_error ((decode_eq_rsvBits_iff hlegal).2 hrsv) hb

/-! ### A checksum stored as its complement (R500, R504) -/

theorem Memory.bytes_add (m : Memory) (a i j : Nat) :
    Memory.bytes m a (i + j) = Memory.bytes m a i ++ Memory.bytes m (a + i) j := by
  induction i generalizing a with
  | zero => rw [Nat.zero_add, Nat.add_zero, Memory.bytes, List.nil_append]
  | succ i ih =>
    rw [Nat.add_right_comm, Memory.bytes, ih, Memory.bytes, List.cons_append, Nat.add_right_comm, Nat.add_assoc]

theorem wordSum_append {pre : List Byte} (even : pre.length % 2 = 0) (post : List Byte) :
    wordSum (pre ++ post) = wordSum pre + wordSum post := by
  induction pre using wordSum.induct with
  | case1 => rw [List.nil_append, wordSum, Nat.zero_add]
  | case2 b => simp at even
  | case3 b0 b1 rest ih =>
    rw [List.length_cons, List.length_cons] at even
    rw [List.cons_append, List.cons_append, wordSum, ih (by omega), wordSum, ← Nat.add_assoc]

theorem wordSum_le (bs : List Byte) : wordSum bs ≤ 65535 * bs.length := by
  induction bs using wordSum.induct with
  | case1 => exact Nat.zero_le _
  | case2 b => rw [wordSum, List.length_singleton]; omega
  | case3 b0 b1 rest ih => rw [wordSum, List.length_cons, List.length_cons]; omega

/-- A half at an even offset of a range adds its own value to the range's sum. -/
theorem wordSum_bytes_field (m : Memory) (a : Nat) {i : Nat} (even : i % 2 = 0) (j : Nat) :
    wordSum (Memory.bytes m a (i + (2 + j))) =
      wordSum (Memory.bytes m a i) + ((Memory.read16 m (a + i)).toNat + wordSum (Memory.bytes m (a + i + 2) j)) := by
  have half : wordSum (Memory.bytes m (a + i) 2) = (Memory.read16 m (a + i)).toNat := by
    rw [Memory.read16, ← BitVec.toNat_setWidth_of_le (w' := 32) (by decide), toNat_setWidth_append_byte,
      Memory.bytes, Memory.bytes, Memory.bytes, wordSum, wordSum, Nat.add_zero]
  rw [Memory.bytes_add, wordSum_append (by rw [Memory.length_bytes]; exact even), Memory.bytes_add m _ 2 j,
    wordSum_append (by rw [Memory.length_bytes]), half]

theorem onesFold_eq_zero_iff (n : Nat) : onesFold n = 0 ↔ n = 0 := by
  rw [onesFold]
  split <;> omega

/-- R504: a sum and the complement of its fold make all ones. -/
theorem onesFold_add_complement (n : Nat) : onesFold (n + (0xFFFF - onesFold n)) = 0xFFFF := by
  rw [onesFold, onesFold]
  split <;> split <;> omega

theorem not_ne_allOnes {c : Half} (h : c ≠ 0) : ~~~ c ≠ 0xFFFF :=
  fun heq => h (by rw [← BitVec.not_not (b := c), heq]; rfl)

section Sealing

variable {z : State} {a i j k : Nat} {seed : Word}

/-- R500, R502: the checksum of a range whose sum does not pass 32 bits is the fold of the exact sum. -/
theorem State.toNat_checksum_of_lt (bound : seed.toNat + 65535 * j < 2 ^ 32) :
    (z.checksum seed a j).toNat = onesFold (seed.toNat + wordSum (Memory.bytes z.mem a j)) := by
  have sum := wordSum_le (Memory.bytes z.mem a j)
  rw [Memory.length_bytes] at sum
  rw [State.toNat_checksum, Nat.mod_eq_of_lt (by omega)]

/-- A half stored over a zero half at an even offset of a range adds its value to the range's sum. -/
theorem State.wordSum_bytes_txPuts_be16 (hz : z.Ok) (fits : k + 2 ≤ z.cfg.txBufSize) (at_k : txBase + k = a + i)
    (even : i % 2 = 0) (zero : z.tx16 k = 0) (v : Half) :
    wordSum (Memory.bytes (z.txPuts k (be16 v)).mem a (i + (2 + j))) =
      v.toNat + wordSum (Memory.bytes z.mem a (i + (2 + j))) := by
  have before : Memory.bytes (z.txPuts k (be16 v)).mem a i = Memory.bytes z.mem a i :=
    Memory.bytes_congr _ _ _ _ fun l hl => State.read_txPuts_of_outside hz fits (by omega)
  have after : Memory.bytes (z.txPuts k (be16 v)).mem (a + i + 2) j = Memory.bytes z.mem (a + i + 2) j :=
    Memory.bytes_congr _ _ _ _ fun l _ => State.read_txPuts_of_outside hz fits (by rw [length_be16]; omega)
  have stored : Memory.read16 (z.txPuts k (be16 v)).mem (a + i) = v := at_k ▸ State.tx16_txPuts_be16 hz fits v
  have old : (Memory.read16 z.mem (a + i)).toNat = 0 := by
    rw [← at_k]
    exact congrArg BitVec.toNat zero
  rw [wordSum_bytes_field _ _ even, wordSum_bytes_field _ _ even, before, after, stored, old, Nat.zero_add,
    Nat.add_left_comm]

/-- R504: storing the complement of the checksum of a range in a zero field of it makes the range sum to all ones. -/
theorem State.onesFold_of_stored_checksum (hz : z.Ok) (fits : k + 2 ≤ z.cfg.txBufSize) (at_k : txBase + k = a + i)
    (even : i % 2 = 0) (zero : z.tx16 k = 0) (bound : seed.toNat + 65535 * (i + (2 + j)) < 2 ^ 32) :
    onesFold (seed.toNat + wordSum (Memory.bytes
      (z.txPuts k (be16 (~~~ z.checksum seed a (i + (2 + j))))).mem a (i + (2 + j)))) = 0xFFFF := by
  rw [State.wordSum_bytes_txPuts_be16 hz fits at_k even zero, BitVec.toNat_not, State.toNat_checksum_of_lt bound,
    Nat.add_left_comm, Nat.add_comm (2 ^ 16 - 1 - _)]
  exact onesFold_add_complement _

end Sealing

/-! ### `IpSend` (R561) -/

/-- R561: the state with the total length stored and the checksum field zeroed. -/
def State.ipZeroed (s : State) (n : Nat) : State :=
  (s.txPuts 16 (be16 (BitVec.ofNat 16 (ipHeader + n)))).txPuts 24 (be16 0)

theorem State.ipFinish_eq (s : State) (n : Nat) : s.ipFinish n =
    (s.ipZeroed n).txPuts 24 (be16 (~~~ (s.ipZeroed n).checksum 0 (txBase + ethHeader) ipHeader)) := rfl

theorem State.ipZeroed_txOnly (s : State) (n : Nat) : TxOnly s (s.ipZeroed n) :=
  (s.txPuts_txOnly _ _).trans (State.txPuts_txOnly _ _ _)

/-- R17: the total length and the checksum of an IPv4 header lie in every TX buffer. -/
theorem ipChecksum_fits {c : Config} (hc : c.wf) : 24 + 2 ≤ c.txBufSize := by
  obtain ⟨-, -, -, htx, -⟩ := hc
  omega

theorem ipTotalLength_fits {c : Config} (hc : c.wf) : 16 + 2 ≤ c.txBufSize :=
  le_trans (by decide) (ipChecksum_fits hc)

section Finish

variable {s : State} (n : Nat)

theorem State.totalLength_ipZeroed (hs : s.Ok) : (s.ipZeroed n).tx16 16 = BitVec.ofNat 16 (20 + n) := by
  have len := s.txPuts_txOnly 16 (be16 (BitVec.ofNat 16 (ipHeader + n)))
  calc (s.ipZeroed n).tx16 16
      = (s.txPuts 16 (be16 (BitVec.ofNat 16 (ipHeader + n)))).tx16 16 :=
        State.tx16_congr fun l hl =>
          State.tx8_txPuts_of_outside (len.ok hs) (ipChecksum_fits (len.ok hs).1) (by omega)
    _ = BitVec.ofNat 16 (20 + n) := State.tx16_txPuts_be16 hs (ipTotalLength_fits hs.1) _

theorem State.headerChecksum_ipZeroed (hs : s.Ok) : (s.ipZeroed n).tx16 24 = 0 :=
  have len := s.txPuts_txOnly 16 (be16 (BitVec.ofNat 16 (ipHeader + n)))
  State.tx16_txPuts_be16 (len.ok hs) (ipChecksum_fits (len.ok hs).1) 0

/-- R561: `IpSend` writes the total length and the checksum, and no other byte. -/
theorem State.read_ipFinish_of_outside (hs : s.Ok) {a : Nat} (ha : a ∉ [0x8010, 0x8011, 0x8018, 0x8019]) :
    Memory.read (s.ipFinish n).mem a = Memory.read s.mem a := by
  have len := s.txPuts_txOnly 16 (be16 (BitVec.ofNat 16 (ipHeader + n)))
  have zeroed := s.ipZeroed_txOnly n
  have outside : (a < 0x8010 ∨ 0x8012 ≤ a) ∧ (a < 0x8018 ∨ 0x801A ≤ a) := by
    simp only [List.mem_cons, List.not_mem_nil, or_false, not_or] at ha
    omega
  obtain ⟨notLength, notChecksum⟩ := outside
  rw [State.ipFinish_eq, State.read_txPuts_of_outside (zeroed.ok hs) (ipChecksum_fits (zeroed.ok hs).1) notChecksum,
    State.ipZeroed, State.read_txPuts_of_outside (len.ok hs) (ipChecksum_fits (len.ok hs).1) notChecksum,
    State.read_txPuts_of_outside hs (ipTotalLength_fits hs.1) notLength]

theorem State.tx8_ipFinish_of_outside (hs : s.Ok) {k : Nat} (hk : k ∉ [16, 17, 24, 25]) :
    (s.ipFinish n).tx8 k = s.tx8 k :=
  State.read_ipFinish_of_outside n hs (by
    simp only [List.mem_cons, List.not_mem_nil, or_false, not_or, txBase] at hk ⊢
    omega)

theorem State.etherType_ipFinish (hs : s.Ok) : (s.ipFinish n).tx16 12 = s.tx16 12 :=
  State.tx16_congr fun j hj => State.tx8_ipFinish_of_outside n hs (by
    simp only [List.mem_cons, List.not_mem_nil, or_false, not_or]
    omega)

theorem State.fTxOverwrite_ipFinish (hs : s.cfg.wf) :
    (s.ipFinish n).fTxOverwrite = (s.fTxOverwrite || s.txProto != 0) := by
  have checksumFits := ipChecksum_fits hs
  have length := State.fTxOverwrite_txPuts_of_ne_nil (s := s) (vs := be16 (BitVec.ofNat 16 (ipHeader + n)))
    (List.cons_ne_nil _ _) (ipTotalLength_fits hs)
  have zeroed := (s.txPuts_txOnly _ _).fTxOverwrite_txPuts (vs := be16 0) length (List.cons_ne_nil _ _) checksumFits
  exact (s.ipZeroed_txOnly n).fTxOverwrite_txPuts zeroed (List.cons_ne_nil _ _) checksumFits

/-- R504, R561: the header `IpSend` leaves. Its total length is not 0, so neither is its sum. -/
theorem State.ipSealed_ipFinish (hs : s.Ok) (hn : 20 + n < 2 ^ 16) : IpSealed (s.ipFinish n) (20 + n) := by
  have zeroedOk := (s.ipZeroed_txOnly n).ok hs
  have fits := ipChecksum_fits zeroedOk.1
  have zero := State.headerChecksum_ipZeroed n hs
  have length : ((s.ipZeroed n).tx16 16).toNat = 20 + n := by
    rw [State.totalLength_ipZeroed n hs, BitVec.toNat_ofNat, Nat.mod_eq_of_lt hn]
  have sum_ne_zero : wordSum (Memory.bytes (s.ipZeroed n).mem 0x800E 20) ≠ 0 := by
    have parts : wordSum (Memory.bytes (s.ipZeroed n).mem 0x800E 20) =
        wordSum (Memory.bytes (s.ipZeroed n).mem 0x800E 2) + (((s.ipZeroed n).tx16 16).toNat +
          wordSum (Memory.bytes (s.ipZeroed n).mem 0x8012 16)) :=
      wordSum_bytes_field _ _ (i := 2) (by decide) 16
    omega
  have checksum_ne_zero : (s.ipZeroed n).checksum 0 (txBase + ethHeader) ipHeader ≠ 0 := by
    have value : ((s.ipZeroed n).checksum 0 (txBase + ethHeader) ipHeader).toNat =
        onesFold (wordSum (Memory.bytes (s.ipZeroed n).mem 0x800E 20)) :=
      (State.toNat_checksum_of_lt (by decide)).trans (congrArg onesFold (Nat.zero_add _))
    intro hzero
    rw [hzero] at value
    exact sum_ne_zero ((onesFold_eq_zero_iff _).1 value.symm)
  refine ⟨?_, ?_, ?_⟩
  · rw [State.ipFinish_eq, State.tx16_congr (s := s.ipZeroed n), length]
    exact fun j hj => State.tx8_txPuts_of_outside zeroedOk fits (by omega)
  · rw [State.ipFinish_eq, ← Nat.zero_add (wordSum _)]
    exact State.onesFold_of_stored_checksum (seed := 0) (i := 10) (j := 8) zeroedOk fits rfl rfl zero (by decide)
  · rw [State.ipFinish_eq, State.tx16_txPuts_be16 zeroedOk fits]
    exact not_ne_allOnes checksum_ne_zero

theorem IpSealed.of_mem {t u : State} {m : Nat} (h : IpSealed t m) (hu : u.mem = t.mem) : IpSealed u m where
  totalLength := by rw [State.tx16, hu, ← State.tx16, h.totalLength]
  sum := by rw [hu, h.sum]
  notAllOnes := by rw [State.tx16, hu]; exact h.notAllOnes

theorem ethHeader_add_ipHeader_add : ethHeader + (ipHeader + n) = 34 + n := by
  rw [ethHeader, ipHeader]
  omega

theorem State.ipSend_eq_handOver (hs : s.Ok) (h : s.tx16 12 ≠ 0) :
    s.ipSend n = (s.ipFinish n).handOver (ipHeader + n) :=
  State.ethTransmit_of_etherType_ne_zero ((State.etherType_ipFinish n hs).trans_ne h) _

theorem State.mem_ipSend (hs : s.Ok) (h : s.tx16 12 ≠ 0) : (s.ipSend n).mem = (s.ipFinish n).mem := by
  rw [State.ipSend_eq_handOver n hs h, State.handOver_mem]

theorem State.txProto_ipSend (hs : s.Ok) (h : s.tx16 12 ≠ 0) : (s.ipSend n).txProto = s.tx16 12 := by
  rw [State.ipSend_eq_handOver n hs h, State.handOver_txProto, State.etherType_ipFinish n hs]

theorem State.txLen_ipSend (hs : s.Ok) (h : s.tx16 12 ≠ 0) : (s.ipSend n).txLen = BitVec.ofNat 16 (34 + n) := by
  rw [State.ipSend_eq_handOver n hs h, State.handOver_txLen, ethHeader_add_ipHeader_add]

/-- R231: the fault bit is set while the header is finished, so the hand-over adds nothing to it. -/
theorem State.fTxOverwrite_ipSend (hs : s.Ok) (h : s.tx16 12 ≠ 0) :
    (s.ipSend n).fTxOverwrite = (s.fTxOverwrite || s.txProto != 0) := by
  rw [State.ipSend_eq_handOver n hs h, State.handOver_fTxOverwrite, State.fTxOverwrite_ipFinish n hs.1,
    (s.ipFinish_txOnly n).txBusy, State.txBusy, Bool.or_assoc, Bool.or_self]

theorem State.trace_ipSend (hs : s.Ok) (h : s.tx16 12 ≠ 0) : (s.ipSend n).trace =
    s.trace ++ [.frameSent (Memory.bytes (s.ipSend n).mem 0x8000 (34 + n)) (34 + n)] := by
  have traceFinish : (s.ipFinish n).trace = s.trace := by rw [(s.ipFinish_txOnly n).rest]
  rw [State.mem_ipSend n hs h, State.ipSend_eq_handOver n hs h, State.handOver_trace, traceFinish,
    ethHeader_add_ipHeader_add, txBase]

/-- R404, R561: all that a send with an EtherType changes. -/
theorem State.ipSend_eq (hs : s.Ok) (h : s.tx16 12 ≠ 0) :
    s.ipSend n = { s with
      mem := (s.ipSend n).mem, fTxOverwrite := s.fTxOverwrite || s.txProto != 0, txProto := s.tx16 12
      txLen := BitVec.ofNat 16 (34 + n)
      trace := s.trace ++ [.frameSent (Memory.bytes (s.ipSend n).mem 0x8000 (34 + n)) (34 + n)] } := by
  have rest := (s.ipSend_sendOnly n).rest
  rwa [State.fTxOverwrite_ipSend n hs h, State.txProto_ipSend n hs h, State.txLen_ipSend n hs h,
    State.trace_ipSend n hs h] at rest

end Finish

/-- R560, R803: outside a hold IP_TX checks its range and then the EtherType. -/
theorem exec_ipTx {s : State} (hb : s.isHeld = false) (n : Half) :
    exec (.ipTx n) s =
      s.command [(s.txTooLong (34 + n.toNat), .range), (s.etherTypeZero, .etype0)]
        fun s => (s.ipSend n.toNat).complete 0 := by
  simp only [exec, execIpTx, State.command, State.firstError_nestedChecks_append hb, ethHeader, ipHeader]

/-- R122: a frame's length with a 16-bit payload length, in the 16 bits of TX_LEN. -/
theorem ofNat_add_toNat_half (k : Nat) (n : Half) : BitVec.ofNat 16 (k + n.toNat) = BitVec.ofNat 16 k + n := by
  rw [BitVec.ofNat_add, BitVec.ofNat_toNat, BitVec.setWidth_eq]

/-- Settles O36: R560 by the order of its two checks, and R561 by the header `IpSend` finishes and hands over. -/
theorem ipTxSeals : Obligations.IpTxSeals := by
  intro s n hs hb
  rw [exec_ipTx hb]
  refine ⟨fun hlen => ?_, fun hlen hz => ?_, fun hlen hnz => ?_⟩
  · exact State.command_of_firstError (by simp [firstError, State.txTooLong_iff, hlen]) _
  · have hcheck : s.etherTypeZero = true := s.etherTypeZero_iff.2 hz
    exact State.command_of_firstError (by simp [firstError, State.txTooLong_iff, hlen.not_gt, hcheck]) _
  · have hcheck : s.etherTypeZero = false := Bool.eq_false_iff.2 (mt s.etherTypeZero_iff.1 hnz)
    have short : 20 + n.toNat < 2 ^ 16 := by
      obtain ⟨⟨-, -, -, -, htx⟩, -⟩ := hs
      omega
    have sealedIp := State.ipSealed_ipFinish n.toNat hs short
    refine ⟨(s.ipSend n.toNat).complete 0, ?_, ?_, ?_, fun a ha => ?_⟩
    · exact State.command_of_accepted (by simp [firstError, State.txTooLong_iff, hlen.not_gt, hcheck]) _
    · have sent := State.ipSend_eq n.toNat hs hnz
      rw [ofNat_add_toNat_half] at sent
      rw [State.complete_mem]
      exact congrArg (State.complete · 0) sent
    · exact sealedIp.of_mem (by rw [State.complete_mem, State.mem_ipSend n.toNat hs hnz])
    · rw [State.complete_mem, State.mem_ipSend n.toNat hs hnz, State.read_ipFinish_of_outside n.toNat hs ha]

end Sys2Proof.Machine

/-! ## TCP lookup and waiting, and the segment a receive command brings: TCP_FIND, TCP_WAIT, SYN_RECEIVED (R600 to R605,
R615, R630, R670) -/

namespace Sys2Proof.Machine

/-! ### The error table as a list of checks (R802, R803) -/

theorem find?_eq_firstError (applies : CmdError → Bool) (errors : List CmdError) :
    errors.find? applies = firstError (errors.map fun e => (applies e, e)) := by
  induction errors with
  | nil => rfl
  | cons e rest ih =>
    rw [List.find?_cons, List.map_cons, firstError]
    cases applies e with
    | true => rfl
    | false => exact ih

/-- R803: the reported error is the first one that applies, in the order of the checks. -/
theorem reportedError_eq_firstError (s : State) (i : Instr) :
    reportedError s i = firstError (errorOrder.map fun e => (errorApplies s i e, e)) := find?_eq_firstError _ _

theorem reportedError_tcpWait (s : State) (i : Slot) :
    reportedError s (.tcpWait i) = firstError (s.nestedChecks ++ [(!s.connExists i, .cidx)]) := by
  simp [reportedError_eq_firstError, errorOrder, errorApplies, firstError, inNestedSet, boundOperand, rangeApplies,
    Instr.wellFormed, State.nestedChecks, State.connExists]

/-! ### Lookup (R605) -/

theorem allSlots_eq_finRange : allSlots = List.finRange 16 := by decide

/-- R605, R610, R611: a scan of the slots answers the least one it looks for. -/
theorem find?_allSlots_eq_some_iff (p : Slot → Bool) (i : Slot) :
    allSlots.find? p = some i ↔ Least (fun j => p j = true) i := by
  rw [allSlots_eq_finRange, List.find?_eq_some_iff_getElem]
  constructor
  · rintro ⟨found, k, hk, at_k, before⟩
    have hki : k = i.val := by simpa using congrArg Fin.val at_k
    exact ⟨found, fun j hj => by simpa using before j.val (hki ▸ hj)⟩
  · rintro ⟨found, before⟩
    exact ⟨found, i.val, by simp, by simp, fun j hj => by simpa using before ⟨j, hj.trans i.isLt⟩ hj⟩

theorem find?_allSlots_eq_none_iff (p : Slot → Bool) : allSlots.find? p = none ↔ ∀ i, ¬ p i = true := by
  rw [List.find?_eq_none]
  exact ⟨fun h i => h i (mem_allSlots i), fun h i _ => h i⟩

/-- R605: what `Find` looks for in the slots, for the ports of the segment in RXBUF. -/
theorem State.matched_iff (s : State) (i : Slot) :
    (s.connExists i && !(s.conn i).free && (s.conn i).localPort == s.rx16 36 &&
      (s.conn i).remotePort == s.rx16 34) = true ↔ s.Matched i := by
  simp [State.connExists, Conn.free, and_assoc]

theorem State.find_eq_some_iff (s : State) (i : Slot) :
    s.find (s.rx16 36) (s.rx16 34) = some i ↔ Least s.Matched i := by
  simp only [State.find, find?_allSlots_eq_some_iff, State.matched_iff]

theorem State.find_eq_none_iff (s : State) : s.find (s.rx16 36) (s.rx16 34) = none ↔ ∀ i, ¬ s.Matched i := by
  simp only [State.find, find?_allSlots_eq_none_iff, State.matched_iff]

theorem exec_tcpFind {s : State} (hb : s.isHeld = false) :
    exec .tcpFind s = .next (s.complete
      ((s.find (s.rx16 36) (s.rx16 34)).elim 0xFFFFFFFF fun i => BitVec.ofNat 32 i.val)) := by
  rw [exec, execTcpFind, State.command_of_accepted (State.firstError_nestedChecks hb)]
  cases s.find (s.rx16 36) (s.rx16 34) <;> rfl

/-! ### Waiting for the TX buffer (R670, R840) -/

theorem State.commandHold_of_free {s : State} (free : s.txProto = 0) (k : CommandHold) (body : State → State) :
    s.commandHold k body = body s := by
  rw [State.commandHold, State.txBusy, free]
  rfl

theorem State.commandHold_of_busy {s : State} (busy : s.txProto ≠ 0) (k : CommandHold) (body : State → State) :
    s.commandHold k body = { s with seq := s.seq.suspend k } := if_pos (bne_iff_ne.2 busy)

theorem State.resume_of_hold {s : State} (free : s.txProto = 0) {k : HoldK} (held : s.seq = .hold k) :
    s.resume = State.resumeHold { s with seq := .idle } k := by
  rw [State.resume, State.txBusy, free, held]
  rfl

theorem State.resume_of_cbHold {s : State} (free : s.txProto = 0) {outer : CallbackK} {k : CommandHold}
    (held : s.seq = .cbHold outer k) : s.resume = State.runCommandHold { s with seq := .cbWait outer } k := by
  rw [State.resume, State.txBusy, free, held]
  rfl

theorem exec_tcpWait (s : State) (i : Slot) :
    exec (.tcpWait i) s = s.command (s.nestedChecks ++ [(!s.connExists i, .cidx)])
      fun s => s.commandHold (.tcpWait i) fun s => s.runCommandHold (.tcpWait i) := rfl

/-! ### The segment a receive command brings (R401, R406, R407, R550, R551, R600 to R602) -/

theorem State.finish_eq_ends (s : State) (t : Tail) : s.finish t = s.ends t := by
  cases t <;> rfl

theorem State.ack_parseSegment (s : State) (len : Nat) : (s.parseSegment len).ack = s.rxAck := by
  simp [State.parseSegment, Segment.ack, State.rxAck]

theorem State.ipReceive_of_tcp {s : State} (proto : s.rx8 23 = 6) (t : Tail) (len : Nat) :
    s.ipReceive t (20 + len) = s.tcpReceive t len := by
  rw [State.ipReceive, if_neg (by rw [ipHeader]; omega), if_neg (by rw [proto]; decide),
    if_pos (show s.rx8 23 = protoTcp from proto), ipHeader,
    Nat.add_sub_cancel_left]

theorem State.ethDispatch_of_tcp {s : State} (etherType : s.rx16 12 = 0x0800) (proto : s.rx8 23 = 6) (t : Tail)
    (len : Nat) : s.ethDispatch t (34 + len) = s.tcpReceive t len := by
  rw [State.ethDispatch, if_neg (by rw [ethHeader]; omega),
    if_pos (show s.rx16 12 = etherTypeIpv4 from etherType), ← State.ipReceive_of_tcp proto]
  congr 1
  rw [ethHeader]
  omega

/-- R401, R406, R407, R550, R551, R600: each receive command hands its segment to `TcpReceive`. -/
theorem exec_of_handsTcp {s : State} {cmd : Instr} {t : Tail} {len : Nat} (idle : s.seq = .idle)
    (hands : s.HandsTcp cmd t len) : exec cmd s = .next (s.tcpReceive t len) := by
  rcases hands with ⟨rfl, rfl, more, etherType, proto, length⟩ |
    ⟨rfl, n, ⟨rfl, fits, etherType, proto, length⟩ | ⟨rfl, fits, proto, length⟩ | ⟨rfl, fits, length⟩⟩
  · have nonzero : s.rxLen ≠ 0 := fun h => by
      simp [h] at length
      omega
    rw [exec, execPoll, State.command_of_accepted (State.firstError_outerChecks idle), State.poll, more,
      if_neg Bool.false_ne_true, if_neg nonzero, length, State.ethDispatch_of_tcp etherType proto]
  · rw [exec, execEthRx, State.command_of_accepted, length, State.ethDispatch_of_tcp etherType proto]
    rw [State.firstError_outerChecks_of_idle idle]
    simp [firstError, State.rxTooLong, fits.not_gt]
  · rw [exec, execIpRx, State.command_of_accepted, length, State.ipReceive_of_tcp proto]
    rw [State.firstError_outerChecks_of_idle idle]
    simp [firstError, State.rxTooLong, ethHeader, fits.not_gt]
  · rw [exec, execTcpRx, State.command_of_accepted, length]
    rw [State.firstError_outerChecks_of_idle idle]
    simp [firstError, State.rxTooLong, ethHeader, ipHeader, fits.not_gt]

/-- R601: a segment that is not undersized is parsed, and goes to the connection or the service of its ports. -/
theorem exec_of_tcpArrives {s : State} {cmd : Instr} {t : Tail} {len : Nat} (arrives : s.TcpArrives cmd t len) :
    exec cmd s = .next (s.rxSegment t (s.parseSegment len)) := by
  obtain ⟨idle, hands, long⟩ := arrives
  rw [exec_of_handsTcp idle hands, State.tcpReceive, if_neg (by rw [tcpHeader]; omega)]

theorem State.rxSegment_of_matched {s : State} {i : Slot} (least : Least s.Matched i) (t : Tail) (len : Nat) :
    s.rxSegment t (s.parseSegment len) = s.rxMatched t (s.parseSegment len) i := by
  have found : s.find (s.parseSegment len).dport (s.parseSegment len).sport = some i := (s.find_eq_some_iff i).2 least
  rw [State.rxSegment, found]

/-- R615: an ACK establishes the connection, and no segment has any other effect. -/
theorem State.rxMatched_of_synReceived {s : State} {i : Slot} (state : (s.conn i).state = .synReceived) (t : Tail)
    (len : Nat) : s.rxMatched t (s.parseSegment len) i =
      State.ends { s with
        conns := if s.rxAck then s.conns.set i { s.conn i with localSeq := s.rx32 42, state := .established }
          else s.conns } t := by
  rw [State.rxMatched, state, ← State.finish_eq_ends]
  show s.rxSynReceived t _ i = _
  rw [State.rxSynReceived, State.ack_parseSegment]
  cases s.rxAck <;> rfl

/-! ### The statements -/

/-- Settles O37: R630 by the least match of the scan of R605. -/
theorem tcpFindResult : Obligations.TcpFindResult := by
  intro s hb
  rw [exec_tcpFind hb]
  refine ⟨fun unmatched => ?_, fun i least => ?_⟩
  · rw [s.find_eq_none_iff.2 unmatched]
    rfl
  · rw [(s.find_eq_some_iff i).2 least]
    rfl

/-- Settles O40: R670 by the two ways through its hold, and R840 by the resumption of it. -/
theorem tcpWaitWaits : Obligations.TcpWaitWaits := by
  intro s i
  refine ⟨rejectedAsReported_of_checks (exec_tcpWait s i) (reportedError_tcpWait s i), fun hb exists_i => ?_,
    fun free held => ?_⟩
  · have accepted : firstError (s.nestedChecks ++ [(!s.connExists i, .cidx)]) = none := by
      simp [State.firstError_nestedChecks_append hb, firstError, State.connExists, exists_i]
    rw [exec_tcpWait, State.command_of_accepted accepted]
    refine ⟨fun free => ?_, fun busy idle => ?_, fun k busy waits => ?_⟩
    · rw [State.commandHold_of_free free]
      rfl
    · rw [State.commandHold_of_busy busy, idle]
      rfl
    · rw [State.commandHold_of_busy busy, waits]
      rfl
  · rw [State.turn, State.resume_of_hold free held]
    rfl

/-- Settles O45: R615 on the segment the receive command hands to the matched connection. -/
theorem ackEstablishes : Obligations.AckEstablishes := by
  intro s cmd tail len i arrives least state
  rw [exec_of_tcpArrives arrives, State.rxSegment_of_matched least, State.rxMatched_of_synReceived state]

end Sys2Proof.Machine

/-! ## Building a TCP segment: TCP_ACQ (R340, R650) -/

namespace Sys2Proof.Machine

/-! ### The bytes a send rewrites (R561, R640, R660) -/

/-- The offsets in TXBUF of `sealedBytes`. -/
theorem txBase_add_not_mem_sealedBytes {k : Nat} (hk : k ∉ [16, 17, 24, 25, 47, 50, 51]) :
    txBase + k ∉ sealedBytes := by
  simp only [sealedBytes, txBase, List.mem_cons, List.not_mem_nil, or_false, not_or] at hk ⊢
  omega

/-- Outside the headers of a segment no byte is rewritten. -/
theorem not_mem_sealedBytes_of_outside {a : Nat} (ha : a < 0x8000 ∨ 0x8036 ≤ a) : a ∉ sealedBytes := by
  simp only [sealedBytes, List.mem_cons, List.not_mem_nil, or_false, not_or]
  omega

theorem State.tx8_of_mem {s t : State} (h : t.mem = s.mem) (k : Nat) : t.tx8 k = s.tx8 k := by
  rw [State.tx8, h, State.tx8]

theorem State.tx16_of_mem {s t : State} (h : t.mem = s.mem) (k : Nat) : t.tx16 k = s.tx16 k := by
  rw [State.tx16, h, State.tx16]

/-- R340: a TCP header's fixed fields are its bytes outside the flags and the checksum. -/
theorem TcpHeaderFields.of_tx8 {t u : State} {sport dport : Half} {seq ack : Word} {flags flags' : Byte}
    {window : Half} (h : TcpHeaderFields t sport dport seq ack flags window)
    (hu : ∀ k, 34 ≤ k → k < 54 → k ∉ [47, 50, 51] → u.tx8 k = t.tx8 k) (flagByte : u.tx8 47 = flags') :
    TcpHeaderFields u sport dport seq ack flags' window := by
  have fixed : ∀ k, (34 ≤ k ∧ k < 47) ∨ (48 ≤ k ∧ k < 50) ∨ (52 ≤ k ∧ k < 54) → u.tx8 k = t.tx8 k :=
    fun k hk => hu k (by omega) (by omega) (by simp only [List.mem_cons, List.not_mem_nil, or_false, not_or]; omega)
  exact {
    sourcePort := (State.tx16_congr fun j hj => fixed (34 + j) (by omega)).trans h.sourcePort
    destPort := (State.tx16_congr fun j hj => fixed (36 + j) (by omega)).trans h.destPort
    sequence := (State.tx32_congr fun j hj => fixed (38 + j) (by omega)).trans h.sequence
    acknowledge := (State.tx32_congr fun j hj => fixed (42 + j) (by omega)).trans h.acknowledge
    offset := (fixed 46 (by decide)).trans h.offset
    flagByte := flagByte
    windowField := (State.tx16_congr fun j hj => fixed (48 + j) (by omega)).trans h.windowField
    urgent := (State.tx16_congr fun j hj => fixed (52 + j) (by omega)).trans h.urgent }

/-! ### The three headers of a segment (R556, R613, R650) -/

@[simp] theorem length_tcpHeaderBytes (sport dport : Half) (seq ack : Word) (flags : Byte) (window : Half) :
    (tcpHeaderBytes sport dport seq ack flags window).length = 20 := rfl

/-- R17: the headers of a segment fit every TX buffer. -/
theorem tcpHeader_fits {c : Config} (hc : c.wf) : 34 + 20 ≤ c.txBufSize := by
  obtain ⟨-, -, -, htx, -⟩ := hc
  exact htx

/-- R613, R650: the Ethernet, IPv4 and TCP headers of a segment are written; nothing is sent yet. -/
def State.buildSegment (s : State) (dest : Word) (sport dport : Half) (seq ack : Word) (flags : Byte) (window : Half) :
    State :=
  (s.ipAcquire dest protoTcp).txPuts 34 (tcpHeaderBytes sport dport seq ack flags window)

/-- The headers of a segment stand in `t`'s TX buffer, built from `s`, with lengths and checksums still open, and no
byte outside them changed. -/
structure SegmentBuilt (s t : State) (dest : Word) (sport dport : Half) (seq ack : Word) (flags : Byte)
    (window : Half) : Prop where
  eth : EthHeader s t 0x0800
  ip : IpHeaderFields s t dest 6
  tcp : TcpHeaderFields t sport dport seq ack flags window
  elsewhere : ∀ a, a < 0x8000 ∨ 0x8036 ≤ a → Memory.read t.mem a = Memory.read s.mem a

section Build

variable {s : State} {dest : Word} {sport dport : Half} {seq ack : Word} {flags : Byte} {window : Half}

theorem State.buildSegment_txOnly : TxOnly s (s.buildSegment dest sport dport seq ack flags window) :=
  (s.ipAcquire_txOnly _ _).trans (State.txPuts_txOnly _ _ _)

theorem State.tx8_buildSegment (hs : s.Ok) {j : Nat} (hj : j < 20) :
    (s.buildSegment dest sport dport seq ack flags window).tx8 (34 + j) =
      (tcpHeaderBytes sport dport seq ack flags window).getD j 0 :=
  have ip := s.ipAcquire_txOnly dest protoTcp
  State.tx8_txPuts (ip.ok hs) (tcpHeader_fits (ip.ok hs).1) hj

theorem State.tx16_buildSegment (hs : s.Ok) {j : Nat} (hj : j + 1 < 20) :
    (s.buildSegment dest sport dport seq ack flags window).tx16 (34 + j) =
      (tcpHeaderBytes sport dport seq ack flags window).getD j 0 ++
        (tcpHeaderBytes sport dport seq ack flags window).getD (j + 1) 0 :=
  have ip := s.ipAcquire_txOnly dest protoTcp
  State.tx16_txPuts (ip.ok hs) (tcpHeader_fits (ip.ok hs).1) hj

theorem State.tx32_buildSegment (hs : s.Ok) {j : Nat} (hj : j + 3 < 20) :
    (s.buildSegment dest sport dport seq ack flags window).tx32 (34 + j) =
      ((tcpHeaderBytes sport dport seq ack flags window).getD j 0 ++
          (tcpHeaderBytes sport dport seq ack flags window).getD (j + 1) 0 : Half) ++
        ((tcpHeaderBytes sport dport seq ack flags window).getD (j + 2) 0 ++
          (tcpHeaderBytes sport dport seq ack flags window).getD (j + 3) 0 : Half) :=
  have ip := s.ipAcquire_txOnly dest protoTcp
  State.tx32_txPuts (ip.ok hs) (tcpHeader_fits (ip.ok hs).1) hj

/-- The TCP header leaves every byte outside it as the IPv4 header's build left it. -/
theorem State.read_buildSegment (hs : s.Ok) {a : Nat} (ha : a < 0x8022 ∨ 0x8036 ≤ a) :
    Memory.read (s.buildSegment dest sport dport seq ack flags window).mem a =
      Memory.read (s.ipAcquire dest protoTcp).mem a :=
  have ip := s.ipAcquire_txOnly dest protoTcp
  State.read_txPuts_of_outside (ip.ok hs) (tcpHeader_fits (ip.ok hs).1) ha

theorem State.tx8_buildSegment_of_outside (hs : s.Ok) {k : Nat} (hk : k < 34 ∨ 54 ≤ k) :
    (s.buildSegment dest sport dport seq ack flags window).tx8 k = (s.ipAcquire dest protoTcp).tx8 k :=
  State.read_buildSegment hs (by rw [txBase]; omega)

theorem State.tcpHeaderFields_buildSegment (hs : s.Ok) :
    TcpHeaderFields (s.buildSegment dest sport dport seq ack flags window) sport dport seq ack flags window where
  sourcePort := (State.tx16_buildSegment hs (j := 0) (by decide)).trans (append_getD_be16 sport)
  destPort := (State.tx16_buildSegment hs (j := 2) (by decide)).trans (append_getD_be16 dport)
  sequence := (State.tx32_buildSegment hs (j := 4) (by decide)).trans (append_getD_be32 seq)
  acknowledge := (State.tx32_buildSegment hs (j := 8) (by decide)).trans (append_getD_be32 ack)
  offset := State.tx8_buildSegment hs (j := 12) (by decide)
  flagByte := State.tx8_buildSegment hs (j := 13) (by decide)
  windowField := (State.tx16_buildSegment hs (j := 14) (by decide)).trans (append_getD_be16 window)
  urgent := (State.tx16_buildSegment hs (j := 18) (by decide)).trans (append_getD_be16 0)

theorem State.segmentBuilt (hs : s.Ok) :
    SegmentBuilt s (s.buildSegment dest sport dport seq ack flags window) dest sport dport seq ack flags window where
  eth := (State.ethHeader_ipAcquire dest protoTcp hs).of_tx8 fun k hk =>
    State.tx8_buildSegment_of_outside hs (.inl (by omega))
  ip := (State.ipHeaderFields_ipAcquire dest protoTcp hs).of_tx8 fun k _ hk _ =>
    State.tx8_buildSegment_of_outside hs (.inl hk)
  tcp := State.tcpHeaderFields_buildSegment hs
  elsewhere a ha := by
    rw [State.read_buildSegment hs (by omega), State.read_ipAcquire_of_outside dest protoTcp hs (by omega)]

/-- R556, R650: the total length and both checksums of a segment that is not sent yet are 0. -/
theorem State.totalLength_buildSegment (hs : s.Ok) :
    (s.buildSegment dest sport dport seq ack flags window).tx16 16 = 0 :=
  (State.tx16_congr fun j hj => State.tx8_buildSegment_of_outside hs (by omega)).trans
    (State.totalLength_ipAcquire dest protoTcp hs)

theorem State.headerChecksum_buildSegment (hs : s.Ok) :
    (s.buildSegment dest sport dport seq ack flags window).tx16 24 = 0 :=
  (State.tx16_congr fun j hj => State.tx8_buildSegment_of_outside hs (by omega)).trans
    (State.headerChecksum_ipAcquire dest protoTcp hs)

theorem State.tcpChecksum_buildSegment (hs : s.Ok) :
    (s.buildSegment dest sport dport seq ack flags window).tx16 50 = 0 :=
  (State.tx16_buildSegment hs (j := 16) (by decide)).trans (append_getD_be16 0)

theorem State.fTxOverwrite_buildSegment (hs : s.cfg.wf) :
    (s.buildSegment dest sport dport seq ack flags window).fTxOverwrite = (s.fTxOverwrite || s.txProto != 0) :=
  (s.ipAcquire_txOnly dest protoTcp).fTxOverwrite_txPuts (State.fTxOverwrite_ipAcquire dest protoTcp hs)
    (List.cons_ne_nil _ _) (tcpHeader_fits hs)

/-- Rewriting only what a send may rewrite leaves a built segment built, with the flags it then has. -/
theorem SegmentBuilt.of_read {t u : State} {flags' : Byte} (h : SegmentBuilt s t dest sport dport seq ack flags window)
    (hu : ∀ a, a ∉ sealedBytes → Memory.read u.mem a = Memory.read t.mem a) (flagByte : u.tx8 47 = flags') :
    SegmentBuilt s u dest sport dport seq ack flags' window := by
  have fixed (k : Nat) (hk : k ∉ [16, 17, 24, 25, 47, 50, 51]) : u.tx8 k = t.tx8 k :=
    hu _ (txBase_add_not_mem_sealedBytes hk)
  refine ⟨h.eth.of_tx8 fun k hk => fixed k ?_, h.ip.of_tx8 fun k low high hk => fixed k ?_,
    h.tcp.of_tx8 (fun k low high hk => fixed k ?_) flagByte,
    fun a ha => (hu a (not_mem_sealedBytes_of_outside ha)).trans (h.elsewhere a ha)⟩
  all_goals
    simp only [List.mem_cons, List.not_mem_nil, or_false, not_or] at *
    omega

theorem SegmentBuilt.of_mem {t u : State} (h : SegmentBuilt s t dest sport dport seq ack flags window)
    (mem : u.mem = t.mem) : SegmentBuilt s u dest sport dport seq ack flags window :=
  h.of_read (fun a _ => by rw [mem]) ((State.tx8_of_mem mem 47).trans h.tcp.flagByte)

end Build

/-! ### `TcpAcquire` and TCP_ACQ (R650) -/

/-- R650: the default ACK segment of connection `i`. -/
def State.replySegment (s : State) (i : Slot) : State :=
  s.buildSegment (s.conn i).remoteIp (s.conn i).localPort (s.conn i).remotePort (s.conn i).localSeq
    (s.conn i).remoteSeq tcpAck s.cfg.tcpWindow

theorem State.buildReply_eq (s : State) (i : Slot) :
    s.buildReply i = (s.replySegment i).setConn i { s.conn i with replyPending := true } := rfl

theorem State.tcpAcquire_of_pending {s : State} {i : Slot} (pending : (s.conn i).replyPending = true) :
    s.tcpAcquire i = s := if_pos pending

theorem State.tcpAcquire_of_not_pending {s : State} {i : Slot} (fresh : (s.conn i).replyPending = false) :
    s.tcpAcquire i = s.buildReply i := if_neg (Bool.eq_false_iff.1 fresh)

/-- R650: all that building a reply changes. -/
theorem State.buildReply_eq_with {s : State} (hs : s.cfg.wf) (i : Slot) :
    s.buildReply i = { s with
      mem := (s.buildReply i).mem, fTxOverwrite := s.fTxOverwrite || s.txProto != 0
      conns := s.conns.set i { s.conn i with replyPending := true } } := by
  have rest : s.replySegment i = _ := State.buildSegment_txOnly.rest
  rw [State.fTxOverwrite_buildSegment hs] at rest
  exact congrArg (State.setConn · i { s.conn i with replyPending := true }) rest

theorem reportedError_tcpAcq (s : State) (i : Slot) :
    reportedError s (.tcpAcq i) = firstError (s.nestedChecks ++ s.connChecks i) := by
  simp [reportedError_eq_firstError, errorOrder, errorApplies, firstError, inNestedSet, boundOperand, rangeApplies,
    Instr.wellFormed, State.nestedChecks, State.connChecks, State.connExists, Conn.free]

theorem exec_tcpAcq (s : State) (i : Slot) :
    exec (.tcpAcq i) s = s.command (s.nestedChecks ++ s.connChecks i) fun s => (s.tcpAcquire i).complete 0x8036 := rfl

/-- Settles O38: R650 by the two answers of `TcpAcquire`, and the bytes of the headers it builds. -/
theorem tcpAcqBuildsOrReuses : Obligations.TcpAcqBuildsOrReuses := by
  intro s i
  refine ⟨rejectedAsReported_of_checks (exec_tcpAcq s i) (reportedError_tcpAcq s i), fun hs accepted => ?_⟩
  rw [exec_tcpAcq, State.command_of_accepted ((reportedError_tcpAcq s i).symm.trans accepted)]
  refine ⟨fun pending => ?_, fun fresh => ?_⟩
  · rw [State.tcpAcquire_of_pending pending]
    rfl
  · rw [State.tcpAcquire_of_not_pending fresh]
    have mem : ((s.buildReply i).complete 0x8036).mem = (s.replySegment i).mem := by
      rw [State.complete_mem, State.buildReply_eq, State.setConn_mem]
    have built := (State.segmentBuilt hs).of_mem mem
    refine ⟨(s.buildReply i).complete 0x8036, rfl,
      congrArg (State.complete · 0x8036) (State.buildReply_eq_with hs.1 i), built.eth, built.ip, built.tcp, ?_, ?_, ?_,
      built.elsewhere⟩
    all_goals rw [State.tx16_of_mem mem]
    exacts [State.totalLength_buildSegment hs, State.headerChecksum_buildSegment hs,
      State.tcpChecksum_buildSegment hs]

end Sys2Proof.Machine

/-! ## Sending a TCP segment: TCP_TX (R350, R640, R660) -/

namespace Sys2Proof.Machine

/-! ### The TCP checksum (R350, R640) -/

/-- R640: the state with the TCP checksum field zeroed. -/
def State.tcpZeroed (s : State) : State := s.txPuts 50 (be16 0)

theorem State.tcpChecksum_eq (s : State) (tl : Nat) : s.tcpChecksum tl =
    s.tcpZeroed.txPuts 50 (be16 (~~~ s.tcpZeroed.checksum (s.pseudoHeaderSeed tl) (txBase + 34) tl)) := rfl

theorem State.tcpZeroed_txOnly (s : State) : TxOnly s s.tcpZeroed := s.txPuts_txOnly _ _

/-- R17: the checksum of a TCP header lies in every TX buffer. -/
theorem tcpChecksum_fits {c : Config} (hc : c.wf) : 50 + 2 ≤ c.txBufSize := le_trans (by decide) (tcpHeader_fits hc)

theorem pseudoSum_bounds (src dst : Word) {tl : Nat} (short : tl ≤ 0x4000) :
    0 < pseudoSum src dst tl ∧ pseudoSum src dst tl + 65535 * tl < 2 ^ 32 := by
  have := src.isLt
  have := dst.isLt
  rw [pseudoSum]
  omega

/-- R640: the seed is the pseudo-header's exact sum in 32 bits. -/
theorem State.pseudoHeaderSeed_eq (s : State) (tl : Nat) :
    s.pseudoHeaderSeed tl = BitVec.ofNat 32 (pseudoSum (s.tx32 26) (s.tx32 30) tl) := by
  simp only [State.pseudoHeaderSeed, pseudoSum, BitVec.ofNat_add, ← hiHalf_toNat, ← loHalf_toNat, BitVec.ofNat_toNat]
  rfl

theorem State.toNat_pseudoHeaderSeed (s : State) {tl : Nat} (short : tl ≤ 0x4000) :
    (s.pseudoHeaderSeed tl).toNat = pseudoSum (s.tx32 26) (s.tx32 30) tl := by
  obtain ⟨-, bound⟩ := pseudoSum_bounds (s.tx32 26) (s.tx32 30) short
  rw [State.pseudoHeaderSeed_eq, BitVec.toNat_ofNat, Nat.mod_eq_of_lt (by omega)]

section Checksum

variable {s : State} {tl : Nat}

/-- R640: `TcpChecksum` writes the checksum field, and no other byte. -/
theorem State.read_tcpChecksum_of_outside (hs : s.Ok) {a : Nat} (ha : a < 0x8032 ∨ 0x8034 ≤ a) :
    Memory.read (s.tcpChecksum tl).mem a = Memory.read s.mem a := by
  have zeroedOk := s.tcpZeroed_txOnly.ok hs
  rw [State.tcpChecksum_eq, State.read_txPuts_of_outside zeroedOk (tcpChecksum_fits zeroedOk.1) ha, State.tcpZeroed,
    State.read_txPuts_of_outside hs (tcpChecksum_fits hs.1) ha]

theorem State.tx8_tcpChecksum_of_outside (hs : s.Ok) {k : Nat} (hk : k < 50 ∨ 52 ≤ k) :
    (s.tcpChecksum tl).tx8 k = s.tx8 k := State.read_tcpChecksum_of_outside hs (by rw [txBase]; omega)

theorem State.fTxOverwrite_tcpChecksum (hs : s.cfg.wf) :
    (s.tcpChecksum tl).fTxOverwrite = (s.fTxOverwrite || s.txProto != 0) :=
  s.tcpZeroed_txOnly.fTxOverwrite_txPuts
    (State.fTxOverwrite_txPuts_of_ne_nil (List.cons_ne_nil _ _) (tcpChecksum_fits hs)) (List.cons_ne_nil _ _)
    (tcpChecksum_fits hs)

/-- R504, R640: the segment `TcpChecksum` leaves.  The pseudo-header's sum is not 0, so the stored checksum is not
0xFFFF. -/
theorem State.tcpSealed_tcpChecksum (hs : s.Ok) (header : 20 ≤ tl) (short : tl ≤ 0x4000) :
    TcpSealed (s.tcpChecksum tl) tl := by
  obtain ⟨rest, rfl⟩ : ∃ rest, tl = 16 + (2 + rest) := ⟨tl - 18, by omega⟩
  have zeroedOk := s.tcpZeroed_txOnly.ok hs
  have fits := tcpChecksum_fits zeroedOk.1
  have zero : s.tcpZeroed.tx16 50 = 0 := State.tx16_txPuts_be16 hs (tcpChecksum_fits hs.1) 0
  have seed := s.toNat_pseudoHeaderSeed short
  obtain ⟨positive, bound⟩ := pseudoSum_bounds (s.tx32 26) (s.tx32 30) short
  rw [← seed] at positive bound
  have source : (s.tcpChecksum (16 + (2 + rest))).tx32 26 = s.tx32 26 :=
    State.tx32_congr fun j hj => State.tx8_tcpChecksum_of_outside hs (by omega)
  have destination : (s.tcpChecksum (16 + (2 + rest))).tx32 30 = s.tx32 30 :=
    State.tx32_congr fun j hj => State.tx8_tcpChecksum_of_outside hs (by omega)
  refine ⟨?_, ?_⟩
  · rw [source, destination, ← seed, State.tcpChecksum_eq]
    exact State.onesFold_of_stored_checksum zeroedOk fits rfl (by decide) zero bound
  · rw [State.tcpChecksum_eq, State.tx16_txPuts_be16 zeroedOk fits]
    refine not_ne_allOnes fun hzero => ?_
    have value := State.toNat_checksum_of_lt (z := s.tcpZeroed) (a := txBase + 34) bound
    rw [hzero] at value
    have := (onesFold_eq_zero_iff _).1 value.symm
    omega

/-- A segment sealed in the TX buffer stays so while its bytes and the addresses before it do. -/
theorem TcpSealed.of_read {t u : State} (h : TcpSealed t tl)
    (hu : ∀ a, 0x801A ≤ a → Memory.read u.mem a = Memory.read t.mem a) : TcpSealed u tl := by
  have tx8 (k : Nat) (hk : 26 ≤ k) : u.tx8 k = t.tx8 k := hu _ (by rw [txBase]; omega)
  have source : u.tx32 26 = t.tx32 26 := State.tx32_congr fun j _ => tx8 _ (by omega)
  have destination : u.tx32 30 = t.tx32 30 := State.tx32_congr fun j _ => tx8 _ (by omega)
  have checksum : u.tx16 50 = t.tx16 50 := State.tx16_congr fun j _ => tx8 _ (by omega)
  have bytes : Memory.bytes u.mem 0x8022 tl = Memory.bytes t.mem 0x8022 tl :=
    Memory.bytes_congr _ _ _ _ fun k _ => hu _ (by omega)
  exact ⟨by rw [source, destination, bytes, h.sum], by rw [checksum]; exact h.notAllOnes⟩

end Checksum

/-! ### Setting a flag of the TCP header (R611, R616, R660, R680) -/

section Flag

variable {s : State} {v : Byte}

theorem State.txOr_eq_txPuts (s : State) (k : Nat) (v : Byte) : s.txOr k v = s.txPuts k [s.tx8 k ||| v] := rfl

/-- R17: the flags of a TCP header lie in every TX buffer. -/
theorem tcpFlags_fits {c : Config} (hc : c.wf) : 47 + 1 ≤ c.txBufSize := le_trans (by decide) (tcpHeader_fits hc)

theorem State.tx8_txOr_flags (hs : s.Ok) : (s.txOr 47 v).tx8 47 = s.tx8 47 ||| v := by
  rw [State.txOr_eq_txPuts]
  exact State.tx8_txPuts hs (tcpFlags_fits hs.1) (j := 0) Nat.one_pos

theorem State.read_txOr_flags_of_ne (hs : s.Ok) {a : Nat} (ha : a ≠ 0x802F) :
    Memory.read (s.txOr 47 v).mem a = Memory.read s.mem a := by
  have outside : a < 0x802F ∨ 0x8030 ≤ a := by omega
  rw [State.txOr_eq_txPuts]
  exact State.read_txPuts_of_outside hs (tcpFlags_fits hs.1) outside

theorem State.fTxOverwrite_txOr_flags (hs : s.cfg.wf) :
    (s.txOr 47 v).fTxOverwrite = (s.fTxOverwrite || s.txProto != 0) := by
  rw [State.txOr_eq_txPuts]
  exact State.fTxOverwrite_txPuts_of_ne_nil (List.cons_ne_nil _ _) (tcpFlags_fits hs)

end Flag

/-! ### The finished segment (R640, R660, R561) -/

/-- R660: PSH is set when the segment has data. -/
def State.tcpMarked (s : State) (n : Nat) : State := if 0 < n then s.txOr 47 tcpPsh else s

/-- R640, R660: PSH and the TCP checksum are stored. -/
def State.tcpFinish (s : State) (n : Nat) : State := (s.tcpMarked n).tcpChecksum (tcpHeader + n)

/-- R561, R660: the segment is finished and can be handed over. -/
def State.segmentFinish (s : State) (n : Nat) : State := (s.tcpFinish n).ipFinish (tcpHeader + n)

theorem State.tcpSendFrame_eq (s : State) (n : Nat) :
    s.tcpSendFrame n = (s.segmentFinish n).ethTransmit (ipHeader + (tcpHeader + n)) := rfl

theorem State.tcpMarked_txOnly (s : State) (n : Nat) : TxOnly s (s.tcpMarked n) := by
  rw [State.tcpMarked]
  split
  · exact s.txOr_txOnly _ _
  · exact TxOnly.refl s

theorem State.tcpFinish_txOnly (s : State) (n : Nat) : TxOnly s (s.tcpFinish n) :=
  (s.tcpMarked_txOnly n).trans (State.tcpChecksum_txOnly _ _)

theorem State.segmentFinish_txOnly (s : State) (n : Nat) : TxOnly s (s.segmentFinish n) :=
  (s.tcpFinish_txOnly n).trans (State.ipFinish_txOnly _ _)

section Finish

variable {s : State} (n : Nat)

theorem State.tx8_tcpMarked (hs : s.Ok) : (s.tcpMarked n).tx8 47 = s.tx8 47 ||| (if n = 0 then 0 else 0x08) := by
  rw [State.tcpMarked]
  split
  · rw [State.tx8_txOr_flags hs, if_neg (by omega), tcpPsh]
  · rw [if_pos (by omega), BitVec.ofNat_eq_ofNat, BitVec.or_zero]

theorem State.read_tcpMarked_of_ne (hs : s.Ok) {a : Nat} (ha : a ≠ 0x802F) :
    Memory.read (s.tcpMarked n).mem a = Memory.read s.mem a := by
  rw [State.tcpMarked]
  split
  · exact State.read_txOr_flags_of_ne hs ha
  · rfl

/-- R561, R640, R660: a send rewrites the flags, the lengths and the checksums, and no other byte. -/
theorem State.read_segmentFinish (hs : s.Ok) {a : Nat} (ha : a ∉ sealedBytes) :
    Memory.read (s.segmentFinish n).mem a = Memory.read s.mem a := by
  simp only [sealedBytes, List.mem_cons, List.not_mem_nil, or_false, not_or] at ha
  rw [State.segmentFinish, State.read_ipFinish_of_outside _ ((s.tcpFinish_txOnly n).ok hs), State.tcpFinish,
    State.read_tcpChecksum_of_outside ((s.tcpMarked_txOnly n).ok hs) (by omega),
    State.read_tcpMarked_of_ne n hs (by omega)]
  simp only [List.mem_cons, List.not_mem_nil, or_false, not_or]
  omega

theorem State.etherType_segmentFinish (hs : s.Ok) : (s.segmentFinish n).tx16 12 = s.tx16 12 :=
  State.tx16_congr fun j hj => State.read_segmentFinish n hs (txBase_add_not_mem_sealedBytes (by
    simp only [List.mem_cons, List.not_mem_nil, or_false, not_or]
    omega))

theorem State.flags_segmentFinish (hs : s.Ok) :
    (s.segmentFinish n).tx8 47 = s.tx8 47 ||| (if n = 0 then 0 else 0x08) := by
  rw [State.segmentFinish, State.tx8_ipFinish_of_outside _ ((s.tcpFinish_txOnly n).ok hs) (by decide), State.tcpFinish,
    State.tx8_tcpChecksum_of_outside ((s.tcpMarked_txOnly n).ok hs) (by decide), State.tx8_tcpMarked n hs]

theorem State.tcpSealed_segmentFinish (hs : s.Ok) (fits : 54 + n ≤ s.cfg.txBufSize) :
    TcpSealed (s.segmentFinish n) (20 + n) := by
  obtain ⟨-, -, -, -, htx⟩ := hs.1
  refine (State.tcpSealed_tcpChecksum ((s.tcpMarked_txOnly n).ok hs) (by omega) (by omega)).of_read fun a ha =>
    State.read_ipFinish_of_outside _ ((s.tcpFinish_txOnly n).ok hs) ?_
  simp only [List.mem_cons, List.not_mem_nil, or_false, not_or]
  omega

theorem State.ipSealed_segmentFinish (hs : s.Ok) (fits : 54 + n ≤ s.cfg.txBufSize) :
    IpSealed (s.segmentFinish n) (40 + n) := by
  obtain ⟨-, -, -, -, htx⟩ := hs.1
  have sealedIp := State.ipSealed_ipFinish (20 + n) ((s.tcpFinish_txOnly n).ok hs) (by omega)
  rwa [← Nat.add_assoc] at sealedIp

theorem State.fTxOverwrite_segmentFinish (hs : s.cfg.wf) :
    (s.segmentFinish n).fTxOverwrite = (s.fTxOverwrite || s.txProto != 0) := by
  have marked : (s.tcpMarked n).fTxOverwrite = s.fTxOverwrite ∨
      (s.tcpMarked n).fTxOverwrite = (s.fTxOverwrite || s.txProto != 0) := by
    rw [State.tcpMarked]
    split
    · exact .inr (State.fTxOverwrite_txOr_flags hs)
    · exact .inl rfl
  have busyMarked : ((s.tcpMarked n).txProto != 0) = (s.txProto != 0) := (s.tcpMarked_txOnly n).txBusy
  have busyFinish : ((s.tcpFinish n).txProto != 0) = (s.txProto != 0) := (s.tcpFinish_txOnly n).txBusy
  have finish : (s.tcpFinish n).fTxOverwrite = (s.fTxOverwrite || s.txProto != 0) := by
    rw [State.tcpFinish, State.fTxOverwrite_tcpChecksum ((s.tcpMarked_txOnly n).cfg ▸ hs), busyMarked]
    rcases marked with marked | marked <;> simp [marked]
  rw [State.segmentFinish, State.fTxOverwrite_ipFinish _ ((s.tcpFinish_txOnly n).cfg ▸ hs), busyFinish, finish,
    Bool.or_assoc, Bool.or_self]

end Finish

/-! ### The hand-over (R404) -/

/-- R404: all that handing over a frame built from `s` changes. -/
theorem TxOnly.handOver_eq {s t : State} (h : TxOnly s t) (n : Nat) :
    t.handOver n = { s with
      mem := t.mem, fTxOverwrite := t.fTxOverwrite || s.txProto != 0, txProto := t.tx16 12
      txLen := BitVec.ofNat 16 (ethHeader + n)
      trace := s.trace ++ [.frameSent (Memory.bytes t.mem txBase (ethHeader + n)) (ethHeader + n)] } := by
  obtain ⟨rest, -⟩ := h
  generalize t.mem = m, t.fTxOverwrite = f at *
  subst rest
  rfl

theorem ethHeader_add_ipHeader_add_tcpHeader_add (n : Nat) : ethHeader + (ipHeader + (tcpHeader + n)) = 54 + n := by
  rw [ethHeader, ipHeader, tcpHeader]
  omega

/-- R404, R660: all that a send with an EtherType changes. -/
theorem State.tcpSendFrame_of_etherType_ne_zero {s : State} (hs : s.Ok) (h : s.tx16 12 ≠ 0) (n : Nat) :
    s.tcpSendFrame n = { s with
      mem := (s.segmentFinish n).mem, fTxOverwrite := s.fTxOverwrite || s.txProto != 0, txProto := s.tx16 12
      txLen := BitVec.ofNat 16 (54 + n)
      trace := s.trace ++ [.frameSent (Memory.bytes (s.segmentFinish n).mem 0x8000 (54 + n)) (54 + n)] } := by
  have etherType := State.etherType_segmentFinish n hs
  rw [State.tcpSendFrame_eq, State.ethTransmit_of_etherType_ne_zero (etherType.trans_ne h),
    (s.segmentFinish_txOnly n).handOver_eq, State.fTxOverwrite_segmentFinish n hs.1, etherType,
    ethHeader_add_ipHeader_add_tcpHeader_add, Bool.or_assoc, Bool.or_self, txBase]

theorem State.tcpSend_of_etherType_ne_zero {s : State} (hs : s.Ok) (h : s.tx16 12 ≠ 0) (i : Slot) (n : Nat) :
    s.tcpSend i n = { s with
      mem := (s.segmentFinish n).mem, fTxOverwrite := s.fTxOverwrite || s.txProto != 0, txProto := s.tx16 12
      txLen := BitVec.ofNat 16 (54 + n)
      trace := s.trace ++ [.frameSent (Memory.bytes (s.segmentFinish n).mem 0x8000 (54 + n)) (54 + n)]
      conns := s.conns.set i { s.conn i with
        localSeq := (s.conn i).localSeq + BitVec.ofNat 32 n, replyPending := false } } := by
  rw [State.tcpSend, State.tcpSendFrame_of_etherType_ne_zero hs h, State.setConn]

/-! ### TCP_TX (R660) -/

theorem reportedError_tcpTx (s : State) (i : Slot) (n : Half) :
    reportedError s (.tcpTx i n) = firstError (s.nestedChecks ++ s.connChecks i ++
      [(s.txTooLong (54 + n.toNat), .range), (!(s.conn i).replyPending, .noReply), (s.etherTypeZero, .etype0)]) := by
  simp [reportedError_eq_firstError, errorOrder, errorApplies, firstError, inNestedSet, boundOperand, rangeApplies,
    Instr.wellFormed, State.nestedChecks, State.connChecks, State.connExists, Conn.free, State.txTooLong,
    State.etherTypeZero, State.tx16]

theorem exec_tcpTx (s : State) (i : Slot) (n : Half) :
    exec (.tcpTx i n) s = s.command (s.nestedChecks ++ s.connChecks i ++
      [(s.txTooLong (54 + n.toNat), .range), (!(s.conn i).replyPending, .noReply), (s.etherTypeZero, .etype0)])
      fun s => (s.tcpSend i n.toNat).complete 0 := rfl

/-- R660: an accepted TCP_TX has room for its data, and a header with an EtherType. -/
theorem tcpTx_accepted {s : State} {i : Slot} {n : Half} (accepted : reportedError s (.tcpTx i n) = none) :
    54 + n.toNat ≤ s.cfg.txBufSize ∧ s.tx16 12 ≠ 0 := by
  have passed := firstError_none ((reportedError_tcpTx s i n).symm.trans accepted)
  have range : s.txTooLong (54 + n.toNat) = false := passed (s.txTooLong (54 + n.toNat), .range) (by simp)
  have etherType : s.etherTypeZero = false := passed (s.etherTypeZero, .etype0) (by simp)
  exact ⟨not_lt.1 (mt (s.txTooLong_iff _).2 (Bool.eq_false_iff.1 range)),
    mt s.etherTypeZero_iff.2 (Bool.eq_false_iff.1 etherType)⟩

/-- Settles O39: R660 by the segment a send finishes and hands over. -/
theorem tcpTxSends : Obligations.TcpTxSends := by
  intro s i n
  refine ⟨rejectedAsReported_of_checks (exec_tcpTx s i n) (reportedError_tcpTx s i n), fun hs accepted => ?_⟩
  rw [exec_tcpTx, State.command_of_accepted ((reportedError_tcpTx s i n).symm.trans accepted)]
  obtain ⟨fits, etherType⟩ := tcpTx_accepted accepted
  have sent := State.tcpSend_of_etherType_ne_zero hs etherType i n.toNat
  have mem : ((s.tcpSend i n.toNat).complete 0).mem = (s.segmentFinish n.toNat).mem := by
    rw [State.complete_mem, sent]
  refine ⟨(s.tcpSend i n.toNat).complete 0, rfl, ?_, ?_, (State.ipSealed_segmentFinish _ hs fits).of_mem mem,
    (State.tcpSealed_segmentFinish _ hs fits).of_read fun a _ => by rw [mem], fun a ha => ?_⟩
  · have txLen : BitVec.ofNat 16 (54 + n.toNat) = 54 + n := ofNat_add_toNat_half 54 n
    rw [mem, sent, txLen, State.complete]
  · have noData : n.toNat = 0 ↔ n = 0 := BitVec.toNat_inj (y := 0)
    rw [State.tx8_of_mem mem, State.flags_segmentFinish _ hs]
    simp only [noData]
  · rw [mem, State.read_segmentFinish _ hs ha]

end Sys2Proof.Machine

/-! ## Closing a connection: TCP_CLOSE (R650, R660, R680) -/

namespace Sys2Proof.Machine

/-! ### A send without data, with and without an EtherType (R404, R660) -/

section Frame

variable {s : State} (n : Nat)

theorem State.mem_ethTransmit (s : State) (n : Nat) : (s.ethTransmit n).mem = s.mem := by
  rw [State.ethTransmit]
  split
  · rw [State.log_mem]
  · rw [State.handOver_mem]

theorem State.mem_tcpSendFrame (s : State) : (s.tcpSendFrame n).mem = (s.segmentFinish n).mem := by
  rw [State.tcpSendFrame_eq, State.mem_ethTransmit]

/-- R404: all that logging a frame built from `s` changes. -/
theorem TxOnly.log_eq {t : State} (h : TxOnly s t) (code : LogCode) (arg : Word) :
    t.log code arg = { s with
      mem := t.mem, fTxOverwrite := t.fTxOverwrite, trace := s.trace ++ [.log code arg] } := by
  obtain ⟨rest, -⟩ := h
  generalize t.mem = m, t.fTxOverwrite = f at *
  subst rest
  rfl

/-- R404, R660: a frame whose EtherType the host has zeroed is finished in the buffer and only logged. -/
theorem State.tcpSendFrame_of_etherType_zero (hs : s.Ok) (h : s.tx16 12 = 0) :
    s.tcpSendFrame n = { s with
      mem := (s.segmentFinish n).mem, fTxOverwrite := s.fTxOverwrite || s.txProto != 0
      trace := s.trace ++ [.log .txEtype0 0] } := by
  rw [State.tcpSendFrame_eq, State.ethTransmit_of_etherType_zero ((State.etherType_segmentFinish n hs).trans h),
    (s.segmentFinish_txOnly n).log_eq, State.fTxOverwrite_segmentFinish n hs.1]

theorem State.fTxOverwrite_tcpSendFrame (hs : s.Ok) :
    (s.tcpSendFrame n).fTxOverwrite = (s.fTxOverwrite || s.txProto != 0) := by
  by_cases h : s.tx16 12 = 0
  · rw [State.tcpSendFrame_of_etherType_zero n hs h]
  · rw [State.tcpSendFrame_of_etherType_ne_zero hs h]

end Frame

/-! ### The reply that stands in the TX buffer (R650) -/

/-- R650: `r` is `s` with the reply of connection `i` in its TX buffer, not sent yet, with `flags` besides ACK: built
from the connection, or the pending one with the flags added.  Of the connections only `i` may have changed. -/
structure ReplyReady (s r : State) (i : Slot) (flags : Byte) : Prop where
  rest : r = { s with mem := r.mem, fTxOverwrite := r.fTxOverwrite, conns := s.conns.set i (r.conn i) }
  canonical : Memory.wf r.mem
  quiet : s.txProto = 0 → r.fTxOverwrite = s.fTxOverwrite
  built : (s.conn i).replyPending = false →
    SegmentBuilt s r (s.conn i).remoteIp (s.conn i).localPort (s.conn i).remotePort (s.conn i).localSeq
      (s.conn i).remoteSeq (0x10 ||| flags) s.cfg.tcpWindow
  reusedFlags : (s.conn i).replyPending = true → r.tx8 47 = s.tx8 47 ||| flags
  reused : (s.conn i).replyPending = true → ∀ a, a ≠ 0x802F → Memory.read r.mem a = Memory.read s.mem a

theorem State.conns_set_conn (s : State) (i : Slot) : s.conns.set i (s.conn i) = s.conns := by
  rw [State.conn, Vector.get_eq_getElem, Vector.set_getElem_self]

/-- R650: after `TcpAcquire` the reply is pending, built or reused. -/
theorem State.conn_tcpAcquire (s : State) (i : Slot) :
    (s.tcpAcquire i).conn i = { s.conn i with replyPending := true } := by
  cases pending : (s.conn i).replyPending with
  | true => rw [State.tcpAcquire_of_pending pending, ← pending]
  | false => rw [State.tcpAcquire_of_not_pending pending, State.buildReply_eq, State.conn_setConn_self]

theorem State.fTxOverwrite_buildReply {s : State} (hs : s.cfg.wf) (i : Slot) :
    (s.buildReply i).fTxOverwrite = (s.fTxOverwrite || s.txProto != 0) :=
  congrArg State.fTxOverwrite (State.buildReply_eq_with hs i)

theorem State.mem_buildReply (s : State) (i : Slot) : (s.buildReply i).mem = (s.replySegment i).mem := by
  rw [State.buildReply_eq, State.setConn_mem]

/-- R650: a pending reply stands in the buffer as it is. -/
theorem State.replyReady_of_pending {s : State} (hs : s.Ok) {i : Slot} (pending : (s.conn i).replyPending = true) :
    ReplyReady s s i 0 where
  rest := by rw [s.conns_set_conn]
  canonical := hs.2
  quiet _ := rfl
  built fresh := absurd pending (Bool.eq_false_iff.1 fresh)
  reusedFlags _ := BitVec.or_zero.symm
  reused _ _ _ := rfl

theorem State.replyReady_buildReply {s : State} (hs : s.Ok) {i : Slot} (fresh : (s.conn i).replyPending = false) :
    ReplyReady s (s.buildReply i) i 0 where
  rest := by
    have rest := State.buildReply_eq_with hs.1 i
    rwa [← State.fTxOverwrite_buildReply hs.1 i, ← s.conn_tcpAcquire i, State.tcpAcquire_of_not_pending fresh] at rest
  canonical := by
    rw [State.mem_buildReply]
    exact State.buildSegment_txOnly.wf hs.2
  quiet free := by rw [State.fTxOverwrite_buildReply hs.1, free, bne_self_eq_false, Bool.or_false]
  built _ := (State.segmentBuilt hs).of_mem (s.mem_buildReply i)
  reusedFlags pending := absurd pending (Bool.eq_false_iff.1 fresh)
  reused pending := absurd pending (Bool.eq_false_iff.1 fresh)

theorem State.replyReady_tcpAcquire {s : State} (hs : s.Ok) (i : Slot) : ReplyReady s (s.tcpAcquire i) i 0 := by
  cases pending : (s.conn i).replyPending with
  | true =>
    rw [State.tcpAcquire_of_pending pending]
    exact State.replyReady_of_pending hs pending
  | false =>
    rw [State.tcpAcquire_of_not_pending pending]
    exact State.replyReady_buildReply hs pending

section Reply

variable {s r t u : State} {i : Slot} {flags : Byte}

theorem ReplyReady.cfg (h : ReplyReady s r i flags) : r.cfg = s.cfg := by rw [h.rest]

theorem ReplyReady.txProto (h : ReplyReady s r i flags) : r.txProto = s.txProto := by rw [h.rest]

theorem ReplyReady.ok (h : ReplyReady s r i flags) (hs : s.Ok) : r.Ok := ⟨h.cfg ▸ hs.1, h.canonical⟩

theorem ReplyReady.room (h : ReplyReady s r i flags) (hs : s.Ok) : 54 + 0 ≤ r.cfg.txBufSize := by
  rw [h.cfg]
  exact tcpHeader_fits hs.1

/-- A flag added to a reply that is ready. -/
theorem ReplyReady.txOr (h : ReplyReady s r i flags) (hs : s.Ok) (v : Byte) :
    ReplyReady s (r.txOr 47 v) i (flags ||| v) where
  rest := by
    have added := r.txOr_txOnly 47 v
    rw [added.conn]
    exact added.rest.trans (congrArg (fun q : State => { q with
      mem := (r.txOr 47 v).mem, fTxOverwrite := (r.txOr 47 v).fTxOverwrite }) h.rest)
  canonical := (r.txOr_txOnly 47 v).wf h.canonical
  quiet free := by
    rw [State.fTxOverwrite_txOr_flags (h.ok hs).1, h.quiet free, h.txProto, free, bne_self_eq_false, Bool.or_false]
  built fresh := (h.built fresh).of_read
    (fun a ha => State.read_txOr_flags_of_ne (h.ok hs) (by rintro rfl; exact ha (by decide)))
    (by rw [State.tx8_txOr_flags (h.ok hs), (h.built fresh).tcp.flagByte, BitVec.or_assoc])
  reusedFlags pending := by rw [State.tx8_txOr_flags (h.ok hs), h.reusedFlags pending, BitVec.or_assoc]
  reused pending a ha := by rw [State.read_txOr_flags_of_ne (h.ok hs) ha, h.reused pending a ha]

theorem ReplyReady.etherType_of_pending (h : ReplyReady s r i flags) (pending : (s.conn i).replyPending = true) :
    r.tx16 12 = s.tx16 12 :=
  State.tx16_congr fun j hj => h.reused pending _ (by rw [txBase]; omega)

/-! ### Sending the reply (R404, R660) -/

/-- R404: a reply with an EtherType is handed over. -/
theorem ReplyReady.handedOver (h : ReplyReady s r i flags) (hs : s.Ok) (etherType : r.tx16 12 ≠ 0)
    {after : List Event} (mem : t.mem = (r.tcpSendFrame 0).mem) (txProto : t.txProto = (r.tcpSendFrame 0).txProto)
    (txLen : t.txLen = (r.tcpSendFrame 0).txLen) (trace : t.trace = (r.tcpSendFrame 0).trace ++ after) :
    HandedOver s t 54 after := by
  have sent := State.tcpSendFrame_of_etherType_ne_zero (h.ok hs) etherType 0
  have finished : t.mem = (r.segmentFinish 0).mem := mem.trans (r.mem_tcpSendFrame 0)
  have traceReady : r.trace = s.trace := by rw [h.rest]
  rw [sent] at txProto txLen trace
  refine ⟨?_, ?_, ?_⟩
  · rw [trace, finished, traceReady, List.append_assoc, List.singleton_append]
  · rw [txProto, State.tx16_of_mem finished, State.etherType_segmentFinish 0 (h.ok hs)]
  · rw [txLen]
    rfl

/-- R404: a reply whose EtherType the host has zeroed is logged. -/
theorem ReplyReady.notHandedOver (h : ReplyReady s r i flags) (hs : s.Ok) (etherType : r.tx16 12 = 0)
    {after : List Event} (txProto : t.txProto = (r.tcpSendFrame 0).txProto)
    (txLen : t.txLen = (r.tcpSendFrame 0).txLen) (trace : t.trace = (r.tcpSendFrame 0).trace ++ after) :
    NotHandedOver s t after := by
  rw [State.tcpSendFrame_of_etherType_zero 0 (h.ok hs) etherType] at txProto txLen trace
  have traceReady : r.trace = s.trace := by rw [h.rest]
  have txLenReady : r.txLen = s.txLen := by rw [h.rest]
  refine ⟨?_, txProto.trans h.txProto, txLen.trans txLenReady⟩
  rw [trace, traceReady, List.append_assoc, List.singleton_append]

/-- R640, R650: a reused reply in the TX buffer once it is finished. -/
theorem ReplyReady.pendingSealed (h : ReplyReady s r i flags) (hs : s.Ok) (pending : (s.conn i).replyPending = true)
    (mem : t.mem = (r.segmentFinish 0).mem) : PendingSealed s t flags where
  flagByte := by
    rw [State.tx8_of_mem mem, State.flags_segmentFinish 0 (h.ok hs), if_pos rfl, h.reusedFlags pending]
    exact BitVec.or_zero
  ipSealed := (State.ipSealed_segmentFinish 0 (h.ok hs) (h.room hs)).of_mem mem
  tcpSealed := (State.tcpSealed_segmentFinish 0 (h.ok hs) (h.room hs)).of_read fun a _ => by rw [mem]
  elsewhere a ha := by
    rw [mem, State.read_segmentFinish 0 (h.ok hs) ha, h.reused pending a (by rintro rfl; exact ha (by decide))]

/-- R640, R650: a built reply in the TX buffer once it is finished. -/
theorem ReplyReady.segmentBuilt (h : ReplyReady s r i flags) (hs : s.Ok) (fresh : (s.conn i).replyPending = false)
    (mem : t.mem = (r.segmentFinish 0).mem) :
    SegmentBuilt s t (s.conn i).remoteIp (s.conn i).localPort (s.conn i).remotePort (s.conn i).localSeq
      (s.conn i).remoteSeq (0x10 ||| flags) s.cfg.tcpWindow :=
  (h.built fresh).of_read (fun a ha => by rw [mem, State.read_segmentFinish 0 (h.ok hs) ha]) (by
    rw [State.tx8_of_mem mem, State.flags_segmentFinish 0 (h.ok hs), if_pos rfl, (h.built fresh).tcp.flagByte]
    exact BitVec.or_zero)

/-- A ready reply is sent in every state that has the memory, the TX registers and the trace of the send, however the
command that sent it goes on. -/
theorem ReplyReady.replySent (h : ReplyReady s r i flags) (hs : s.Ok) {after : List Event}
    (mem : t.mem = (r.tcpSendFrame 0).mem) (txProto : t.txProto = (r.tcpSendFrame 0).txProto)
    (txLen : t.txLen = (r.tcpSendFrame 0).txLen) (trace : t.trace = (r.tcpSendFrame 0).trace ++ after) :
    ReplySent s t i flags after := by
  have finished : t.mem = (r.segmentFinish 0).mem := mem.trans (r.mem_tcpSendFrame 0)
  refine ⟨fun fresh => ?_, fun pending => h.pendingSealed hs pending finished, fun pending etherType => ?_,
    fun pending etherType => ?_⟩
  · have etherType : r.tx16 12 ≠ 0 := (h.built fresh).eth.etherType.trans_ne (by decide)
    have sealedReply := h.segmentBuilt hs fresh finished
    exact ⟨sealedReply.eth, sealedReply.ip, sealedReply.tcp,
      (State.ipSealed_segmentFinish 0 (h.ok hs) (h.room hs)).of_mem finished,
      (State.tcpSealed_segmentFinish 0 (h.ok hs) (h.room hs)).of_read fun a _ => by rw [finished],
      h.handedOver hs etherType mem txProto txLen trace, sealedReply.elsewhere⟩
  · exact h.handedOver hs ((h.etherType_of_pending pending).trans_ne etherType) mem txProto txLen trace
  · exact h.notHandedOver hs ((h.etherType_of_pending pending).trans etherType) txProto txLen trace

/-- The statement reads nothing of the sequencer and the callback registers of the state before the reply. -/
theorem ReplySent.of_suspended {q : Sequencer} {done : Bool} {retval : Half} {kind : CbKind} {after : List Event}
    (h : ReplySent { s with seq := q, done := done, cbRetval := retval, cbKind := kind } t i flags after) :
    ReplySent s t i flags after where
  built fresh :=
    have sent := h.built fresh
    { sent with eth := { sent.eth with }, ip := { sent.ip with }, handed := { sent.handed with } }
  reused pending := { h.reused pending with }
  sent pending etherType := { h.sent pending etherType with }
  logged pending etherType := { h.logged pending etherType with }

/-- R231, R650, R660: all that a send changes when the TX buffer is free. -/
theorem ReplyReady.tcpSendFrame_eq (h : ReplyReady s r i flags) (hs : s.Ok) (free : s.txProto = 0)
    (sent : u = r.tcpSendFrame 0) :
    u = { s with
      mem := u.mem, txProto := u.txProto, txLen := u.txLen, trace := u.trace, conns := s.conns.set i (r.conn i) } := by
  have quiet : u.fTxOverwrite = s.fTxOverwrite := by
    rw [sent, State.fTxOverwrite_tcpSendFrame 0 (h.ok hs), h.quiet free, h.txProto, free, bne_self_eq_false,
      Bool.or_false]
  have only : SendOnly r u := sent ▸ r.tcpSendFrame_sendOnly 0
  have all := only.rest.trans (congrArg (fun q : State => { q with
    mem := u.mem, fTxOverwrite := u.fTxOverwrite, txProto := u.txProto, txLen := u.txLen, trace := u.trace }) h.rest)
  rwa [quiet] at all

end Reply

/-! ### TCP_CLOSE after its hold (R680) -/

/-- R680: the ACK+FIN of connection `i`, not sent yet. -/
def State.closeReply (s : State) (i : Slot) : State := (s.tcpAcquire i).txOr 47 tcpFin

theorem State.replyReady_closeReply {s : State} (hs : s.Ok) (i : Slot) : ReplyReady s (s.closeReply i) i 0x01 :=
  (State.replyReady_tcpAcquire hs i).txOr hs tcpFin

theorem State.conn_closeReply (s : State) (i : Slot) :
    (s.closeReply i).conn i = { s.conn i with replyPending := true } :=
  ((s.tcpAcquire i).txOr_txOnly 47 tcpFin).conn i |>.trans (s.conn_tcpAcquire i)

/-- R680: the reply is sent, and the connection waits for the peer. -/
theorem State.tcpCloseBody_eq (s : State) (i : Slot) :
    s.tcpCloseBody i = (((s.closeReply i).tcpSendFrame 0).setConn i
      { s.conn i with state := .finWait1, replyPending := false }).complete 0 := by
  rw [State.tcpCloseBody, ← State.closeReply, State.setTcpState, State.tcpSend, State.setConn_setConn,
    State.conn_setConn_self, State.conn_closeReply, BitVec.ofNat_eq_ofNat, BitVec.add_zero]

/-- A command that has sent a reply on connection `i` from a free TX buffer and has then completed changes nothing
else. -/
theorem ReplyReady.sendFrameRule {s r u : State} {i : Slot} {flags : Byte} (h : ReplyReady s r i flags) (hs : s.Ok)
    (free : s.txProto = 0) (sent : u = r.tcpSendFrame 0) (c : Conn) (result : Word) :
    SendFrameRule s ((u.setConn i c).complete result) i := by
  have all := h.tcpSendFrame_eq hs free sent
  clear sent
  have conn : ((u.setConn i c).complete result).conn i = c := u.conn_setConn_self i c
  rw [SendFrameRule, conn]
  generalize u.mem = m, u.txProto = p, u.txLen = l, u.trace = tr at *
  subst all
  simp [State.setConn, State.complete]

/-- R650, R660, R680: what TCP_CLOSE leaves of `s` when its hold has passed; the sequencer goes on as `q`. -/
structure Closed (s t : State) (i : Slot) (q : Sequencer) : Prop where
  reply : ReplySent s t i 0x01 []
  frame : SendFrameRule s t i
  conn : t.conn i = { s.conn i with state := .finWait1, replyPending := false }
  seq : t.seq = q
  result : t.result = 0
  done : t.done = true
  rxLen : t.rxLen = s.rxLen
  rxArmed : t.rxArmed = s.rxArmed

theorem State.closed_tcpCloseBody {s : State} (hs : s.Ok) (free : s.txProto = 0) (i : Slot) :
    Closed s (s.tcpCloseBody i) i s.seq := by
  have ready := State.replyReady_closeReply hs i
  obtain ⟨u, sent⟩ : ∃ u, u = (s.closeReply i).tcpSendFrame 0 := ⟨_, rfl⟩
  have all := ready.tcpSendFrame_eq hs free sent
  rw [State.tcpCloseBody_eq, ← sent]
  refine {
    reply := ready.replySent hs ?_ ?_ ?_ ?_
    frame := ready.sendFrameRule hs free sent _ 0
    conn := u.conn_setConn_self i _
    seq := ?_, result := rfl, done := rfl, rxLen := ?_, rxArmed := ?_ }
  · rw [State.complete_mem, State.setConn_mem, sent]
  · rw [State.complete_txProto, State.setConn_txProto, sent]
  · rw [State.complete_txLen, State.setConn_txLen, sent]
  · rw [State.complete_trace, State.setConn_trace, sent, List.append_nil]
  · rw [State.complete_seq, State.setConn_seq, all]
  · rw [State.complete_rxLen, State.setConn_rxLen, all]
  · rw [State.complete_rxArmed, State.setConn_rxArmed, all]

/-- The close that a hold has delayed is the close at once, but for the sequencer. -/
theorem State.closed_of_resumed {s : State} (hs : s.Ok) (free : s.txProto = 0) (i : Slot) (q : Sequencer) :
    Closed s (State.tcpCloseBody { s with seq := q } i) i q := by
  have closed := State.closed_tcpCloseBody (s := { s with seq := q }) hs free i
  generalize State.tcpCloseBody { s with seq := q } i = t at closed ⊢
  exact { closed with reply := closed.reply.of_suspended, frame := closed.frame }

/-! ### TCP_CLOSE (R680) -/

/-- R802: TCP_CLOSE asks of its connection what TCP_ACQ does. -/
theorem reportedError_tcpClose (s : State) (i : Slot) :
    reportedError s (.tcpClose i) = firstError (s.nestedChecks ++ s.connChecks i) := reportedError_tcpAcq s i

theorem exec_tcpClose (s : State) (i : Slot) :
    exec (.tcpClose i) s = s.command (s.nestedChecks ++ s.connChecks i)
      fun s => s.commandHold (.tcpClose i) fun s => s.runCommandHold (.tcpClose i) := rfl

theorem exec_tcpClose_of_accepted {s : State} {i : Slot} (accepted : reportedError s (.tcpClose i) = none) :
    exec (.tcpClose i) s = .next (s.commandHold (.tcpClose i) fun s => s.tcpCloseBody i) :=
  (exec_tcpClose s i).trans (State.command_of_accepted ((reportedError_tcpClose s i).symm.trans accepted) _)

/-- Settles O41: R680 by the two ways through its hold, and by the reply that is sent when it has passed. -/
theorem tcpCloseSendsFin : Obligations.TcpCloseSendsFin := by
  intro s i
  refine ⟨rejectedAsReported_of_checks (exec_tcpClose s i) (reportedError_tcpClose s i), fun accepted busy => ?_, ?_⟩
  · rw [exec_tcpClose_of_accepted accepted, State.commandHold_of_busy busy]
    exact ⟨fun idle => by rw [idle]; rfl, fun k waits => by rw [waits]; rfl⟩
  · intro hs free closes
    have closes_of_closed {t : State} {q : Sequencer} (closed : Closed s t i q) : closes (.next t) q :=
      ⟨t, rfl, closed.reply, closed.frame, closed.conn, closed.seq, closed.result, closed.done, closed.rxLen,
        closed.rxArmed⟩
    refine ⟨fun accepted => ?_, fun held => ?_, fun k held => ?_⟩
    · rw [exec_tcpClose_of_accepted accepted, State.commandHold_of_free free]
      exact closes_of_closed (State.closed_tcpCloseBody hs free i)
    · rw [State.turn, State.resume_of_hold free held]
      exact closes_of_closed (State.closed_of_resumed hs free i .idle)
    · rw [State.turn, State.resume_of_cbHold free held]
      exact closes_of_closed (State.closed_of_resumed hs free i (.cbWait k))

end Sys2Proof.Machine

/-! ## Registering a service: SVC_REG (R700) -/

namespace Sys2Proof.Machine

/-- R802, R803: SVC_REG is rejected by a hold, by an outstanding callback or by a slot beyond the table, in this order. -/
theorem reportedError_svcReg (s : State) (j : Slot) (port : Half) :
    reportedError s (.svcReg j port) = firstError (s.outerChecks ++ [(!s.svcExists j, .cidx)]) := by
  simp [reportedError_eq_firstError, errorOrder, errorApplies, firstError, inNestedSet, boundOperand, rangeApplies,
    Instr.wellFormed, State.outerChecks, State.svcExists]

theorem exec_svcReg (s : State) (j : Slot) (port : Half) :
    exec (.svcReg j port) s = s.command (s.outerChecks ++ [(!s.svcExists j, .cidx)])
      fun s => (s.setSvc j { port := port, valid := true, priv := s.arg0 }).complete 0 := rfl

/-- R700, R803: in the idle block the slot's existence is all that SVC_REG asks. -/
theorem State.firstError_svcReg_of_idle {s : State} (idle : s.seq = .idle) {j : Slot} (exists_j : j.val < s.cfg.nServ) :
    firstError (s.outerChecks ++ [(!s.svcExists j, .cidx)]) = none := by
  rw [State.firstError_outerChecks_of_idle idle]
  simp [firstError, State.svcExists, exists_j]

/-- Settles O50: R700 by the checks of SVC_REG, and by the slot it writes once they pass. -/
theorem svcRegRegisters : Obligations.SvcRegRegisters := by
  intro s j port
  refine ⟨rejectedAsReported_of_checks (exec_svcReg s j port) (reportedError_svcReg s j port),
    fun idle exists_j => ?_⟩
  rw [exec_svcReg, State.command_of_accepted (State.firstError_svcReg_of_idle idle exists_j), State.setSvc,
    State.complete]

end Sys2Proof.Machine

/-! ## Command errors and the interrupt line (60_exceptions.md: R800 to R803, R834, R870) -/

namespace Sys2Proof.Machine

/-! ### The sequencer's tests (R102) -/

theorem State.inCallback_iff (s : State) : s.inCallback = true ↔ ∃ k, s.seq = .cbWait k := by
  cases h : s.seq <;> simp [State.inCallback, h, Sequencer.code]

theorem State.isHeld_of_cbWait {s : State} {k : CallbackK} (waits : s.seq = .cbWait k) : s.isHeld = false := by
  rw [State.isHeld, waits]
  rfl

theorem State.isIdle_of_cbWait {s : State} {k : CallbackK} (waits : s.seq = .cbWait k) : s.isIdle = false := by
  rw [State.isIdle, waits]
  rfl

/-- Settles O56: R870 by the four sources of the line. -/
theorem interruptLine : Obligations.InterruptLine := by
  intro s
  simp only [State.irq, State.errv, Bool.or_eq_true, Bool.and_eq_true, State.inCallback_iff, Option.isSome_iff_ne_none,
    or_assoc]

/-! ### The checks of every command (R803) -/

/-- R803: the checks each command makes, in the order it makes them. -/
def State.commandChecks (s : State) : Instr → List (Bool × CmdError)
  | .init | .poll => s.outerChecks
  | .ethRx n => s.outerChecks ++ [(s.rxTooLong n.toNat, .range)]
  | .arpRx n | .ipRx n => s.outerChecks ++ [(s.rxTooLong (14 + n.toNat), .range)]
  | .tcpRx n => s.outerChecks ++ [(s.rxTooLong (34 + n.toNat), .range)]
  | .svcReg j _ => s.outerChecks ++ [(!s.svcExists j, .cidx)]
  | .ethAcq _ | .setMore _ | .ipAcq _ | .tcpFind => s.nestedChecks
  | .ethTx n => s.nestedChecks ++ [(s.txTooLong (14 + n.toNat), .range), (s.etherTypeZero, .etype0)]
  | .csum n => s.nestedChecks ++ [(!s.inRange s.csumAddr n.toNat, .range)]
  | .ipTx n => s.nestedChecks ++ [(s.txTooLong (34 + n.toNat), .range), (s.etherTypeZero, .etype0)]
  | .tcpAcq i | .tcpClose i => s.nestedChecks ++ s.connChecks i
  | .tcpTx i n => s.nestedChecks ++ s.connChecks i ++
      [(s.txTooLong (54 + n.toNat), .range), (!(s.conn i).replyPending, .noReply), (s.etherTypeZero, .etype0)]
  | .tcpWait i => s.nestedChecks ++ [(!s.connExists i, .cidx)]
  | .cbRet _ => s.nestedChecks ++ [(s.isIdle, .notInCb)]

/-- R710, R831: what CB_RET does once its checks have passed: a callback is then outstanding (log 13). -/
def State.runCbRet (s : State) (value : Half) : State :=
  match s.seq with
  | .cbWait k => (s.callbackReturn value).resumeCallback k
  | .idle => s
  | .hold _ => s
  | .cbHold _ _ => s

/-- R801: what each command does once its checks have passed, up to its first suspension or its completion. -/
def State.runAccepted (i : Instr) (s : State) : State :=
  match i with
  | .init => s.initialise.rearm.complete 0
  | .poll => s.poll
  | .ethAcq et => (s.ethAcquire et).complete 0x800E
  | .ethTx n => (s.ethTransmit n.toNat).complete 0
  | .setMore register => State.complete { s with moreCb := register } 0
  | .ethRx n => s.ethDispatch .direct n.toNat
  | .arpRx n => (s.arpHandle n.toNat).2.complete (s.arpHandle n.toNat).1
  | .csum n => s.complete (BitVec.setWidth 32 (s.checksum s.csumSeed s.csumAddr n.toNat))
  | .ipRx n => s.ipReceive .direct n.toNat
  | .ipAcq proto => (s.ipAcquire s.arg0 proto).complete 0x8022
  | .ipTx n => (s.ipSend n.toNat).complete 0
  | .tcpRx n => s.tcpReceive .direct n.toNat
  | .tcpFind => s.complete (match s.find (s.rx16 36) (s.rx16 34) with
      | some i => BitVec.ofNat 32 i.val
      | none => 0xFFFFFFFF)
  | .tcpAcq c => (s.tcpAcquire c).complete 0x8036
  | .tcpTx c n => (s.tcpSend c n.toNat).complete 0
  | .tcpWait c => s.commandHold (.tcpWait c) fun s => s.runCommandHold (.tcpWait c)
  | .tcpClose c => s.commandHold (.tcpClose c) fun s => s.runCommandHold (.tcpClose c)
  | .svcReg j port => (s.setSvc j { port := port, valid := true, priv := s.arg0 }).complete 0
  | .cbRet v => s.runCbRet v

/-- R800, R801: a command is its checks and what it does once they have passed. -/
theorem exec_eq_command (i : Instr) (s : State) : exec i s = s.command (s.commandChecks i) (State.runAccepted i) := by
  cases i <;> rfl

/-- R802, R803: a command's own checks report what the error table does. -/
theorem reportedError_eq_firstError_commandChecks (s : State) (i : Instr) :
    reportedError s i = firstError (s.commandChecks i) := by
  cases i with
  | init | poll => exact reportedError_init s
  | svcReg j port => exact reportedError_svcReg s j port
  | tcpAcq c | tcpClose c => exact reportedError_tcpAcq s c
  | tcpTx c n => exact reportedError_tcpTx s c n
  | tcpWait c => exact reportedError_tcpWait s c
  | ethRx n | arpRx n | ipRx n | tcpRx n =>
    simp [reportedError_eq_firstError, errorOrder, errorApplies, firstError, inNestedSet, boundOperand, rangeApplies,
      Instr.wellFormed, State.commandChecks, State.outerChecks, State.rxTooLong]
  | ethTx n | ipTx n | csum n =>
    simp [reportedError_eq_firstError, errorOrder, errorApplies, firstError, inNestedSet, boundOperand, rangeApplies,
      Instr.wellFormed, State.commandChecks, State.nestedChecks, State.txTooLong, State.etherTypeZero, State.tx16,
      State.csumAddr]
  | ethAcq _ | setMore _ | ipAcq _ | tcpFind | cbRet _ =>
    simp [reportedError_eq_firstError, errorOrder, errorApplies, firstError, inNestedSet, boundOperand, rangeApplies,
      Instr.wellFormed, State.commandChecks, State.nestedChecks]

/-- R800, R803: every command is rejected as reported. -/
theorem rejectedAsReported (s : State) (i : Instr) : RejectedAsReported s i :=
  rejectedAsReported_of_checks (exec_eq_command i s) (reportedError_eq_firstError_commandChecks s i)

/-- R104: recording the word in CMD_LAST changes no check. -/
theorem reportedError_cmdLast (s : State) (w : Word) (i : Instr) :
    reportedError { s with cmdLast := w } i = reportedError s i := rfl

/-- Settles O13: R803 by the checks of the decoded command, and by the decoder's answer on any other word. -/
theorem firstFailingCheckReported : Obligations.FirstFailingCheckReported := by
  intro s w
  refine ⟨fun i e decoded reported => ?_, fun d undecoded => ?_⟩
  · have reported' : reportedError { s with cmdLast := w } i = some e := (reportedError_cmdLast s w i).trans reported
    exact (State.issue_of_decode_ok decoded).trans (rejectedAsReported _ i e reported')
  · rw [State.issue, undecoded]
    rfl

/-! ### What leaves STATUS.ERR as it is (R801) -/

theorem SendOnly.err {s t : State} (h : SendOnly s t) : t.err = s.err := by rw [h.rest]

theorem TxOnly.err {s t : State} (h : TxOnly s t) : t.err = s.err := h.sendOnly.err

@[simp] theorem State.err_txOr (s : State) (k : Nat) (v : Byte) : (s.txOr k v).err = s.err := (s.txOr_txOnly k v).err

@[simp] theorem State.err_tcpAcquire (s : State) (i : Slot) : (s.tcpAcquire i).err = s.err := by
  cases pending : (s.conn i).replyPending with
  | true => rw [State.tcpAcquire_of_pending pending]
  | false => rw [State.tcpAcquire_of_not_pending pending, State.buildReply_eq, State.setConn_err,
      State.replySegment, State.buildSegment_txOnly.err]

@[simp] theorem State.err_tcpSend (s : State) (i : Slot) (n : Nat) : (s.tcpSend i n).err = s.err := by
  rw [State.tcpSend, State.setConn_err, (s.tcpSendFrame_sendOnly n).err]

@[simp] theorem State.err_setTcpState (s : State) (i : Slot) (st : TcpState) : (s.setTcpState i st).err = s.err := rfl

@[simp] theorem State.err_finish (s : State) (t : Tail) : (s.finish t).err = s.err := by
  cases t <;> rfl

theorem State.err_holdThen {s : State} {body : State → State} (kept : (body s).err = s.err) (k : HoldK) :
    (s.holdThen k body).err = s.err := by
  unfold State.holdThen
  split
  · rfl
  · exact kept

theorem State.err_runCommandHold (s : State) (k : CommandHold) : (s.runCommandHold k).err = s.err := by
  cases k with
  | tcpWait i => rfl
  | tcpClose i => simp [State.runCommandHold, State.tcpCloseBody]

theorem State.err_commandHold (s : State) (k : CommandHold) :
    (s.commandHold k fun s => s.runCommandHold k).err = s.err := by
  unfold State.commandHold
  split
  · rfl
  · exact s.err_runCommandHold k

theorem State.err_estReplyBody (s : State) (t : Tail) (g : Segment) (i : Slot) :
    (s.estReplyBody t g i).err = s.err := by
  refine (State.err_holdThen (State.err_finish _ t) _).trans ?_
  split <;> simp

/-- R831: no outer command records or clears an error when it goes on after its callback. -/
theorem State.err_resumeCallback (s : State) (k : CallbackK) : (s.resumeCallback k).err = s.err := by
  cases k with
  | more => rfl
  | udp t => exact State.err_finish s t
  | accept t g i => exact State.err_holdThen (by simp [State.synAckBody]) _
  | process t g i => exact State.err_holdThen (s.err_estReplyBody t g i) _
  | closed t g i => exact State.err_finish _ t

theorem State.err_runCbRet (s : State) (v : Half) : (s.runCbRet v).err = s.err := by
  unfold State.runCbRet
  split
  case h_1 k _ => exact (State.err_resumeCallback _ k).trans (s.callbackReturn_err v)
  all_goals rfl

/-! ### The nested set (R834) -/

/-- R801, R834: a command of the nested set that is accepted keeps the error. -/
theorem State.err_runAccepted_of_nested {i : Instr} (nested : inNestedSet i = true) (s : State) :
    (s.runAccepted i).err = s.err := by
  cases i with
  | setMore _ | csum _ | tcpFind => rfl
  | ethAcq et => exact (State.complete_err _ _).trans (s.ethAcquire_txOnly et).err
  | ethTx n => exact (State.complete_err _ _).trans (s.ethTransmit_sendOnly n.toNat).err
  | ipAcq p => exact (State.complete_err _ _).trans (s.ipAcquire_txOnly s.arg0 p).err
  | ipTx n => exact (State.complete_err _ _).trans (s.ipSend_sendOnly n.toNat).err
  | tcpAcq c => exact (State.complete_err _ _).trans (s.err_tcpAcquire c)
  | tcpTx c n => exact (State.complete_err _ _).trans (s.err_tcpSend c n.toNat)
  | tcpWait c => exact s.err_commandHold (.tcpWait c)
  | tcpClose c => exact s.err_commandHold (.tcpClose c)
  | cbRet v => exact s.err_runCbRet v
  | init | poll | ethRx _ | arpRx _ | ipRx _ | tcpRx _ | svcReg _ _ => exact absurd nested Bool.false_ne_true

/-- R834: E_REENTRANT does not apply to the nested set. -/
theorem reportedError_ne_reentrant {i : Instr} (nested : inNestedSet i = true) (s : State) :
    reportedError s i ≠ some .reentrant := by
  intro reported
  have applies : errorApplies s i .reentrant = true := List.find?_some reported
  simp [errorApplies, nested] at applies

/-- R803, R834: during a callback the first check any other command fails is that of E_REENTRANT. -/
theorem reportedError_of_not_nested {s : State} {k : CallbackK} (waits : s.seq = .cbWait k) {i : Instr}
    (outer : inNestedSet i = false) : reportedError s i = some .reentrant := by
  have notHeld : errorApplies s i .busy = false := State.isHeld_of_cbWait waits
  have returns : errorApplies s i .notInCb = false := by
    cases i with
    | cbRet v => exact State.isIdle_of_cbWait waits
    | _ => rfl
  have reentrant : errorApplies s i .reentrant = true := by
    rw [errorApplies, s.inCallback_iff.2 ⟨k, waits⟩, outer]
    rfl
  rw [reportedError_eq_firstError]
  simp only [errorOrder, List.map_cons, firstError, notHeld, returns, reentrant]
  rfl

/-- R800, R834: a command of the nested set never records E_REENTRANT. -/
theorem err_of_nested {i : Instr} (nested : inNestedSet i = true) {s t : State} (run_t : exec i s = .next t)
    (recorded : t.err = some .reentrant) : s.err = some .reentrant := by
  rw [exec_eq_command] at run_t
  rcases s.command_cases (s.commandChecks i) (State.runAccepted i) with ⟨e, failed, rejected⟩ | ⟨-, accepted⟩
  · obtain rfl : s.reject e = t := Host.Outcome.next.inj (rejected.symm.trans run_t)
    have reported : reportedError s i = some .reentrant :=
      (reportedError_eq_firstError_commandChecks s i).trans (failed.trans recorded)
    exact absurd reported (reportedError_ne_reentrant nested s)
  · obtain rfl : s.runAccepted i = t := Host.Outcome.next.inj (accepted.symm.trans run_t)
    exact (s.err_runAccepted_of_nested nested).symm.trans recorded

/-- Settles O16: R834 by the error reported outside the nested set, and by what a command inside it can record. -/
theorem nestedSet : Obligations.NestedSet := by
  intro s k waits
  refine ⟨fun n p j i listed => ?_, fun et n v b p c i listed t => ?_⟩
  · have outer : inNestedSet i = false := by
      revert i
      simp [inNestedSet]
    exact rejectedAsReported s i _ (reportedError_of_not_nested waits outer)
  · have nested : inNestedSet i = true := by
      revert i
      simp [inNestedSet]
    exact err_of_nested nested

end Sys2Proof.Machine

/-! ## Hardware reset (R900) -/

namespace Sys2Proof.Machine

/-- R130, R900: every connection slot is free at reset. -/
theorem State.conn_resetWith (c : Config) (i : Slot) : (State.resetWith c).conn i = Conn.zero :=
  Vector.getElem_replicate i.isLt

/-- R140, R900: no service is registered at reset. -/
theorem State.svc_resetWith (c : Config) (j : Slot) : (State.resetWith c).svc j = Svc.zero :=
  Vector.getElem_replicate j.isLt

/-- R110, R900: at reset the block is idle, nothing is done and no error or fault is recorded. -/
theorem State.statusWord_resetWith (c : Config) : (State.resetWith c).statusWord = 0 := by
  simp [State.statusWord, State.errv, State.errCode, State.resetWith, Sequencer.code]

/-- R112, R900: no callback is outstanding at reset, so every field of CB_INFO is 0. -/
theorem State.cbInfoWord_resetWith (c : Config) : (State.resetWith c).cbInfoWord = 0 := by
  simp [State.cbInfoWord, State.resetWith, CbKind.code]

theorem resetValues_resetWith (c : Config) : ResetValues c (State.resetWith c) where
  parameters := rfl
  sequencer := rfl
  commandRegisters := ⟨rfl, rfl, rfl, rfl⟩
  status := State.statusWord_resetWith c
  irqMask := rfl
  callbackRegisters := ⟨State.cbInfoWord_resetWith c, rfl, rfl, rfl⟩
  errorWord := rfl
  macAddress := rfl
  receiver := ⟨rfl, rfl⟩
  sender := ⟨rfl, rfl, rfl⟩
  buffers _ := rfl
  connections := State.conn_resetWith c
  services := State.svc_resetWith c

/-- R900: what a hardware reset keeps of the state before it is no part of the reset values, the parameters apart. -/
theorem State.resetValues_hardReset (s : State) : ResetValues s.cfg s.hardReset :=
  { resetValues_resetWith s.cfg with }

/-- R221: the next move on the agenda is the one that is made. -/
theorem step_of_agenda {s : State} {move : Turn} {rest : List Turn} (next : s.agenda = move :: rest) :
    step s = State.turn { s with agenda := rest } move := by
  rw [step, State.advance, next]

/-- Settles O6: R900 by the reset state's fields, and by the reset move, which keeps the parameters and the trace. -/
theorem resetState : Obligations.ResetState :=
  ⟨resetValues_resetWith, fun s rest next =>
    ⟨State.hardReset { s with agenda := rest }, step_of_agenda next,
      State.resetValues_hardReset { s with agenda := rest }, rfl, rfl⟩⟩

end Sys2Proof.Machine

/-! ## Command words: decoding an encoded command, and encoding a decoded word (R301, R303, R305) -/

namespace Sys2Proof.Machine

/-! ### The fields of a word built by R301 -/

theorem getLsbD_commandWord (opc : Byte) (cidx : Slot) (imm : Half) (k : Nat) :
    (commandWord opc cidx imm).getLsbD k =
      if k < 8 then opc.getLsbD k
      else if k < 12 then (BitVec.ofFin cidx : BitVec 4).getLsbD (k - 8)
      else if k < 16 then false else imm.getLsbD (k - 16) := by
  have low : (0#4 ++ (BitVec.ofFin cidx : BitVec 4) ++ opc).getLsbD k = _ :=
    BitVec.getLsbD_append (x := 0#4 ++ (BitVec.ofFin cidx : BitVec 4)) (y := opc)
  have rsv : (0#4 ++ (BitVec.ofFin cidx : BitVec 4)).getLsbD (k - 8) = _ :=
    BitVec.getLsbD_append (x := 0#4) (y := (BitVec.ofFin cidx : BitVec 4))
  rw [show (commandWord opc cidx imm).getLsbD k = _ from
    BitVec.getLsbD_append (x := imm) (y := 0#4 ++ (BitVec.ofFin cidx : BitVec 4) ++ opc), low, rsv, BitVec.getLsbD_zero]
  grind

theorem opcField_commandWord (opc : Byte) (cidx : Slot) (imm : Half) : opcField (commandWord opc cidx imm) = opc :=
  (Laws.commandWord_fields opc cidx imm).2

theorem cidxField_commandWord (opc : Byte) (cidx : Slot) (imm : Half) : cidxField (commandWord opc cidx imm) = cidx := by
  have bits : (commandWord opc cidx imm).extractLsb' 8 4 = BitVec.ofFin cidx := by
    apply BitVec.eq_of_getLsbD_eq
    intro k hk
    rw [BitVec.getLsbD_extractLsb', getLsbD_commandWord]
    grind
  rw [cidxField, bits]

theorem extractLsb'_imm_commandWord (opc : Byte) (cidx : Slot) (imm : Half) (lo len : Nat) :
    (commandWord opc cidx imm).extractLsb' (16 + lo) len = imm.extractLsb' lo len := by
  apply BitVec.eq_of_getLsbD_eq
  intro k hk
  rw [BitVec.getLsbD_extractLsb', BitVec.getLsbD_extractLsb', getLsbD_commandWord]
  grind

theorem immField_commandWord (opc : Byte) (cidx : Slot) (imm : Half) : immField (commandWord opc cidx imm) = imm :=
  (extractLsb'_imm_commandWord opc cidx imm 0 16).trans BitVec.extractLsb'_eq_self

/-- R303: the fields of a command word that must be 0 for its OPC are 0; RSV is not among them. -/
structure ReservedFieldsZero (opc : Byte) (cidx : Slot) (imm : Half) : Prop where
  index : cidxOpcodes.contains opc = true ∨ cidx = 0
  immWhole : immZeroOpcodes.contains opc = false ∨ imm = 0
  immHigh : (opc == 0x21) = false ∨ imm.extractLsb' 8 8 = 0#8
  immButBit : (opc == 0x05) = false ∨ imm.extractLsb' 1 15 = 0#15

theorem extractLsb'_cidx_eq_zero_iff (w : Word) : w.extractLsb' 8 4 = 0#4 ↔ cidxField w = 0 :=
  (BitVec.toFin_inj (x := w.extractLsb' 8 4) (y := 0#4)).symm

/-- R303: a word built by R301 is accepted exactly when its reserved fields are 0. -/
theorem and_reservedMask_commandWord_iff (opc : Byte) (cidx : Slot) (imm : Half) :
    commandWord opc cidx imm &&& reservedMask opc = 0#32 ↔ ReservedFieldsZero opc cidx imm := by
  have rsv : (commandWord opc cidx imm).extractLsb' 12 4 = 0#4 := (Laws.commandWord_fields opc cidx imm).1
  have immWhole : (commandWord opc cidx imm).extractLsb' 16 16 = 0#16 ↔ imm = 0 := by
    rw [extractLsb'_imm_commandWord opc cidx imm 0 16, BitVec.extractLsb'_eq_self]
    rfl
  simp only [reservedMask, BitVec.and_or_distrib_left, BitVec.or_eq_zero_iff, and_ite_eq_zero_iff,
    and_fieldMask_eq_zero_iff_extractLsb' _ (show 12 + 4 ≤ 32 by decide),
    and_fieldMask_eq_zero_iff_extractLsb' _ (show 8 + 4 ≤ 32 by decide),
    and_fieldMask_eq_zero_iff_extractLsb' _ (show 16 + 16 ≤ 32 by decide),
    and_fieldMask_eq_zero_iff_extractLsb' _ (show 24 + 8 ≤ 32 by decide),
    and_fieldMask_eq_zero_iff_extractLsb' _ (show 17 + 15 ≤ 32 by decide),
    rsv, extractLsb'_cidx_eq_zero_iff, cidxField_commandWord, immWhole, extractLsb'_imm_commandWord opc cidx imm 8 8,
    extractLsb'_imm_commandWord opc cidx imm 1 15, true_and, and_assoc]
  constructor
  · rintro ⟨index, immWhole, immHigh, immButBit⟩
    constructor <;> grind
  · rintro ⟨index, immWhole, immHigh, immButBit⟩
    grind

theorem mustBeZero_commandWord {opc : Byte} {cidx : Slot} {imm : Half} (zero : ReservedFieldsZero opc cidx imm)
    (i : Instr) : mustBeZero (commandWord opc cidx imm) (reservedMask opc) i = .ok i :=
  if_pos ((and_reservedMask_commandWord_iff opc cidx imm).2 zero)

theorem extractLsb'_setWidth_byte_low (p : Byte) : (BitVec.setWidth 16 p).extractLsb' 0 8 = p := by
  rw [BitVec.extractLsb'_setWidth_of_le (by decide), BitVec.extractLsb'_eq_self]

theorem extractLsb'_setWidth_byte_high (p : Byte) : (BitVec.setWidth 16 p).extractLsb' 8 8 = 0#8 := by
  apply BitVec.eq_of_getLsbD_eq
  simp

/-- R555: the protocol byte, written as IMM. -/
theorem immByte_commandWord (opc : Byte) (cidx : Slot) (p : Byte) :
    immByte (commandWord opc cidx (BitVec.setWidth 16 p)) = p :=
  (extractLsb'_imm_commandWord opc cidx _ 0 8).trans (extractLsb'_setWidth_byte_low p)

/-- R405: the register bit, written as IMM. -/
theorem immBit_commandWord (opc : Byte) (cidx : Slot) (b : Bool) :
    immBit (commandWord opc cidx (BitVec.setWidth 16 (BitVec.ofBool b))) = b := by
  rw [immBit, getLsbD_commandWord]
  cases b <;> rfl

/-- Settles O1: the decoder takes the arm of the command's OPC, whose reserved fields `encode` leaves 0, and reads
back the fields `encode` wrote. -/
theorem decodeEncode : Obligations.DecodeEncode := by
  intro i
  cases i with
  | init | poll | tcpFind => rfl
  | ethAcq n | ethTx n | ethRx n | arpRx n | csum n | ipRx n | ipTx n | tcpRx n | cbRet n =>
    rw [encode, decode, opcField_commandWord, immField_commandWord]
    exact mustBeZero_commandWord ⟨.inr rfl, .inl rfl, .inl rfl, .inl rfl⟩ _
  | setMore b =>
    rw [encode, decode, opcField_commandWord, immBit_commandWord]
    exact mustBeZero_commandWord ⟨.inr rfl, .inl rfl, .inl rfl, .inr (by cases b <;> rfl)⟩ _
  | ipAcq p =>
    rw [encode, decode, opcField_commandWord, immByte_commandWord]
    exact mustBeZero_commandWord ⟨.inr rfl, .inl rfl, .inr (extractLsb'_setWidth_byte_high p), .inl rfl⟩ _
  | tcpAcq c | tcpWait c | tcpClose c =>
    rw [encode, decode, opcField_commandWord, cidxField_commandWord]
    exact mustBeZero_commandWord ⟨.inl rfl, .inr rfl, .inl rfl, .inl rfl⟩ _
  | tcpTx c n | svcReg c n =>
    rw [encode, decode, opcField_commandWord, cidxField_commandWord, immField_commandWord]
    exact mustBeZero_commandWord ⟨.inl rfl, .inl rfl, .inl rfl, .inl rfl⟩ _

/-! ### The word of an accepted command -/

/-- R301: a word whose RSV is 0 is built from its fields. -/
theorem commandWord_fields_eq {w : Word} (rsv : w.extractLsb' 12 4 = 0#4) :
    commandWord (opcField w) (cidxField w) (immField w) = w := by
  apply BitVec.eq_of_getLsbD_eq
  intro k hk
  have rsvBit : (w.extractLsb' 12 4).getLsbD (k - 12) = false := by rw [rsv, BitVec.getLsbD_zero]
  rw [BitVec.getLsbD_extractLsb'] at rsvBit
  rw [getLsbD_commandWord, opcField, immField, cidxField, BitVec.ofFin_toFin, BitVec.getLsbD_extractLsb',
    BitVec.getLsbD_extractLsb', BitVec.getLsbD_extractLsb']
  grind

theorem rsv_of_and_reservedMask {w : Word} {opc : Byte} (zero : w &&& reservedMask opc = 0#32) :
    w.extractLsb' 12 4 = 0#4 := by
  simp only [reservedMask, BitVec.and_or_distrib_left, BitVec.or_eq_zero_iff, and_assoc] at zero
  exact (and_fieldMask_eq_zero_iff_extractLsb' w (by decide)).1 zero.1

theorem mustBeZero_eq_ok {w mask : Word} {i j : Instr} (h : mustBeZero w mask i = .ok j) : w &&& mask = 0#32 ∧ i = j := by
  unfold mustBeZero at h
  split at h
  next zero => exact ⟨zero, Except.ok.inj h⟩
  next => cases h

/-- R301, R303: a word that the arm of its OPC accepts is built from its fields, the reserved ones 0. -/
theorem fields_of_mustBeZero {w : Word} {opc : Byte} {i j : Instr} (at_opc : opcField w = opc)
    (h : mustBeZero w (reservedMask opc) i = .ok j) :
    i = j ∧ commandWord opc (cidxField w) (immField w) = w ∧ ReservedFieldsZero opc (cidxField w) (immField w) := by
  obtain ⟨zero, same⟩ := mustBeZero_eq_ok h
  have built := commandWord_fields_eq (rsv_of_and_reservedMask zero)
  rw [at_opc] at built
  exact ⟨same, built, (and_reservedMask_commandWord_iff opc _ _).1 (built.symm ▸ zero)⟩

/-- R405: with the other bits of IMM 0, its register bit is all of it. -/
theorem setWidth_immBit {w : Word} (zero : (immField w).extractLsb' 1 15 = 0#15) :
    BitVec.setWidth 16 (BitVec.ofBool (immBit w)) = immField w := by
  apply BitVec.eq_of_getLsbD_eq
  intro k hk
  have bit : ((immField w).extractLsb' 1 15).getLsbD (k - 1) = false := by rw [zero, BitVec.getLsbD_zero]
  simp only [immField, BitVec.getLsbD_extractLsb'] at bit
  simp only [immBit, immField, BitVec.getLsbD_setWidth, BitVec.getLsbD_ofBool, BitVec.getLsbD_extractLsb']
  grind

/-- R555: with the high byte of IMM 0, the protocol byte is all of it. -/
theorem setWidth_immByte {w : Word} (zero : (immField w).extractLsb' 8 8 = 0#8) :
    BitVec.setWidth 16 (immByte w) = immField w := by
  apply BitVec.eq_of_getLsbD_eq
  intro k hk
  have bit : ((immField w).extractLsb' 8 8).getLsbD (k - 8) = false := by rw [zero, BitVec.getLsbD_zero]
  simp only [immField, BitVec.getLsbD_extractLsb'] at bit
  simp only [immByte, immField, BitVec.getLsbD_setWidth, BitVec.getLsbD_extractLsb']
  grind

/-- Settles O2: the arm of the decoder that accepts a word makes its command of the word's fields, and the fields it
ignores are 0. -/
theorem encodeDecode : Obligations.EncodeDecode := by
  intro w i decoded
  unfold decode at decoded
  split at decoded
  case h_20 => cases decoded
  case h_1 _ arm | h_2 _ arm | h_13 _ arm =>
    obtain ⟨rfl, built, index, immWhole, -, -⟩ := fields_of_mustBeZero (opcField_eq_of_toNat arm) decoded
    rw [index.resolve_left (by decide), immWhole.resolve_left (by decide)] at built
    exact built
  case h_5 _ arm =>
    obtain ⟨rfl, built, index, -, -, immButBit⟩ := fields_of_mustBeZero (opcField_eq_of_toNat arm) decoded
    rw [index.resolve_left (by decide), ← setWidth_immBit (immButBit.resolve_left (by decide))] at built
    exact built
  case h_10 _ arm =>
    obtain ⟨rfl, built, index, -, immHigh, -⟩ := fields_of_mustBeZero (opcField_eq_of_toNat arm) decoded
    rw [index.resolve_left (by decide), ← setWidth_immByte (immHigh.resolve_left (by decide))] at built
    exact built
  case h_14 _ arm | h_16 _ arm | h_17 _ arm =>
    obtain ⟨rfl, built, -, immWhole, -, -⟩ := fields_of_mustBeZero (opcField_eq_of_toNat arm) decoded
    rw [immWhole.resolve_left (by decide)] at built
    exact built
  case h_15 _ arm | h_18 _ arm =>
    obtain ⟨rfl, built, -, -, -, -⟩ := fields_of_mustBeZero (opcField_eq_of_toNat arm) decoded
    exact built
  all_goals
    next arm =>
    obtain ⟨rfl, built, index, -, -, -⟩ := fields_of_mustBeZero (opcField_eq_of_toNat arm) decoded
    rw [index.resolve_left (by decide)] at built
    exact built

/-- Settles O5: each word by running the decoder. -/
theorem writtenWordsDecode : Obligations.WrittenWordsDecode :=
  ⟨rfl, rfl, rfl, rfl, rfl, rfl, rfl, rfl, rfl, rfl⟩

end Sys2Proof.Machine

/-! ## What a command can change (R201, R230, R231, R404, R800, R801, R861) -/

namespace Sys2Proof.Machine

/-! ### The last frame handed over (R230) -/

theorem lastSent_append (before after : List Event) :
    lastSent (before ++ after) = (lastSent after).or (lastSent before) := by
  induction before with
  | nil => exact (Option.or_none (o := lastSent after)).symm
  | cons e rest ih =>
    simp only [List.cons_append, lastSent, ih]
    cases lastSent after <;> rfl

theorem lastSent_append_log (trace : List Event) (code : LogCode) (arg : Word) :
    lastSent (trace ++ [.log code arg]) = lastSent trace := lastSent_append trace _

theorem lastSent_append_rxRearm (trace : List Event) : lastSent (trace ++ [.rxRearm]) = lastSent trace :=
  lastSent_append trace _

theorem lastSent_append_frameSent (trace : List Event) (bytes : List Byte) (n : Nat) :
    lastSent (trace ++ [.frameSent bytes n]) = some bytes := lastSent_append trace _

/-- R230: the statement reads only the TX buffer's state and the last frame of the trace. -/
theorem State.FlightIntact.congr {s t : State} (h : s.FlightIntact) (txProto : t.txProto = s.txProto)
    (fault : t.fTxOverwrite = s.fTxOverwrite) (mem : t.mem = s.mem) (txLen : t.txLen = s.txLen)
    (sent : lastSent t.trace = lastSent s.trace) : t.FlightIntact := by
  intro busy safe
  rw [sent, mem, txLen]
  exact h (by rwa [State.txBusy, txProto] at busy) (fault.symm.trans safe)

/-- Nothing is in flight in a free buffer. -/
theorem State.flightIntact_of_free {s : State} (free : s.txProto = 0) : s.FlightIntact := by
  intro busy
  rw [State.txBusy, free] at busy
  cases busy

/-- R231: a byte written over a frame in flight sets the fault bit. -/
theorem State.FlightIntact.txPut {s : State} (h : s.FlightIntact) (k : Nat) (v : Byte) : (s.txPut k v).FlightIntact := by
  unfold State.txPut
  split
  · intro busy safe
    have noted : (s.fTxOverwrite || s.txBusy) = false := safe
    rw [show s.txBusy = true from busy, Bool.or_true] at noted
    cases noted
  · exact h

theorem State.FlightIntact.txPuts {s : State} (h : s.FlightIntact) (k : Nat) (vs : List Byte) :
    (s.txPuts k vs).FlightIntact := by
  induction vs generalizing s k with
  | nil => exact h
  | cons v vs ih => exact ih (h.txPut k v) (k + 1)

/-- R404: the event of a hand-over records the bytes that stand in TXBUF. -/
theorem State.flightIntact_handOver (s : State) {n : Nat} (short : 14 + n < 2 ^ 16) : (s.handOver n).FlightIntact := by
  intro _ _
  rw [State.handOver_trace, lastSent_append_frameSent, State.handOver_mem, State.handOver_txLen, BitVec.toNat_ofNat,
    Nat.mod_eq_of_lt (show ethHeader + n < 2 ^ 16 from short)]

theorem State.FlightIntact.ethTransmit {s : State} (h : s.FlightIntact) {n : Nat} (short : 14 + n < 2 ^ 16) :
    (s.ethTransmit n).FlightIntact := by
  unfold State.ethTransmit
  split
  · exact h.congr rfl rfl rfl rfl (lastSent_append_log _ _ _)
  · exact s.flightIntact_handOver short

/-! ### The discipline of the TX buffer -/

/-- What every command but INIT keeps: RXBUF, the canonical memory, a set fault bit, a busy buffer, the trace up to
new events, and the bytes of a frame in flight unless the overwrite is flagged. -/
structure TxDiscipline (s t : State) : Prop where
  cfg : t.cfg = s.cfg
  below : Memory.wf s.mem → ∀ a < txBase, Memory.read t.mem a = Memory.read s.mem a
  wf : Memory.wf s.mem → Memory.wf t.mem
  sticky : s.fTxOverwrite = true → t.fTxOverwrite = true
  busy : s.txProto ≠ 0 → t.txProto ≠ 0
  trace : s.trace <+: t.trace
  flight : s.cfg.wf → s.FlightIntact → t.FlightIntact

theorem TxDiscipline.refl (s : State) : TxDiscipline s s := 
  ⟨rfl, fun _ _ _ => rfl, id, id, id, List.prefix_rfl, fun _ => id⟩

theorem TxDiscipline.trans {s t u : State} (h : TxDiscipline s t) (k : TxDiscipline t u) : TxDiscipline s u where
  cfg := k.cfg.trans h.cfg
  below hs a ha := (k.below (h.wf hs) a ha).trans (h.below hs a ha)
  wf := k.wf ∘ h.wf
  sticky := k.sticky ∘ h.sticky
  busy := k.busy ∘ h.busy
  trace := h.trace.trans k.trace
  flight hc hf := k.flight (h.cfg ▸ hc) (h.flight hc hf)

theorem SendOnly.txDiscipline {s t : State} (h : SendOnly s t) (flight : s.cfg.wf → s.FlightIntact → t.FlightIntact) :
    TxDiscipline s t where
  cfg := by rw [h.rest]
  below := h.below
  wf := h.wf
  sticky := h.sticky
  busy hb := by simpa [State.txBusy] using h.busy (by simpa [State.txBusy] using hb)
  trace := h.trace
  flight := flight

/-- A state that differs only in registers the discipline does not read. -/
theorem TxDiscipline.of_eq {s t : State} (cfg : t.cfg = s.cfg) (mem : t.mem = s.mem) (fault : t.fTxOverwrite = s.fTxOverwrite)
    (txProto : t.txProto = s.txProto) (txLen : t.txLen = s.txLen) (trace : t.trace = s.trace) :
    TxDiscipline s t where
  cfg := cfg
  below _ _ _ := by rw [mem]
  wf := by rw [mem]; exact id
  sticky := by rw [fault]; exact id
  busy := by rw [txProto]; exact id
  trace := by rw [trace]
  flight _ h := h.congr txProto fault mem txLen (congrArg lastSent trace)

/-! ### Building and sending (R403, R404, R556, R561, R640, R650, R660, R680) -/

/-- `t` differs from `s` at most in what building and sending a frame or a segment and completing a command change. -/
structure SegmentOnly (s t : State) : Prop extends TxDiscipline s t where
  rest : t = { s with
    mem := t.mem, fTxOverwrite := t.fTxOverwrite, txProto := t.txProto, txLen := t.txLen, trace := t.trace
    conns := t.conns, result := t.result, done := t.done }

theorem SegmentOnly.refl (s : State) : SegmentOnly s s := ⟨TxDiscipline.refl s, rfl⟩

theorem SegmentOnly.trans {s t u : State} (h : SegmentOnly s t) (k : SegmentOnly t u) : SegmentOnly s u :=
  ⟨h.toTxDiscipline.trans k.toTxDiscipline, by rw [k.rest, h.rest]⟩

theorem SendOnly.segmentOnly {s t : State} (h : SendOnly s t) (flight : s.cfg.wf → s.FlightIntact → t.FlightIntact) :
    SegmentOnly s t := ⟨h.txDiscipline flight, by rw [h.rest]⟩

section Segment

variable (s : State)

theorem State.txPuts_segmentOnly (k : Nat) (vs : List Byte) : SegmentOnly s (s.txPuts k vs) :=
  (s.txPuts_txOnly k vs).sendOnly.segmentOnly fun _ h => h.txPuts k vs

theorem State.txOr_segmentOnly (k : Nat) (v : Byte) : SegmentOnly s (s.txOr k v) := s.txPuts_segmentOnly k [_]

theorem State.complete_segmentOnly (r : Word) : SegmentOnly s (s.complete r) := ⟨.of_eq rfl rfl rfl rfl rfl rfl, rfl⟩

theorem State.setConn_segmentOnly (i : Slot) (c : Conn) : SegmentOnly s (s.setConn i c) :=
  ⟨.of_eq rfl rfl rfl rfl rfl rfl, rfl⟩

theorem State.setTcpState_segmentOnly (i : Slot) (st : TcpState) : SegmentOnly s (s.setTcpState i st) :=
  s.setConn_segmentOnly i _

theorem State.log_segmentOnly (code : LogCode) (arg : Word) : SegmentOnly s (s.log code arg) where
  cfg := rfl
  below _ _ _ := rfl
  wf := id
  sticky := id
  busy := id
  trace := List.prefix_append _ _
  flight _ h := h.congr rfl rfl rfl rfl (lastSent_append_log _ _ _)
  rest := rfl

theorem State.ethAcquire_segmentOnly (et : Half) : SegmentOnly s (s.ethAcquire et) := by
  unfold State.ethAcquire
  split
  · exact .refl s
  · exact s.txPuts_segmentOnly _ _

theorem State.ethTransmit_segmentOnly {n : Nat} (short : s.cfg.wf → 14 + n < 2 ^ 16) :
    SegmentOnly s (s.ethTransmit n) :=
  (s.ethTransmit_sendOnly n).segmentOnly fun hc h => h.ethTransmit (short hc)

theorem State.ipAcquire_segmentOnly (dest : Word) (proto : Byte) : SegmentOnly s (s.ipAcquire dest proto) :=
  (s.ethAcquire_segmentOnly _).trans (State.txPuts_segmentOnly _ _ _)

theorem State.ipFinish_segmentOnly (n : Nat) : SegmentOnly s (s.ipFinish n) :=
  ((s.txPuts_segmentOnly _ _).trans (State.txPuts_segmentOnly _ _ _)).trans (State.txPuts_segmentOnly _ _ _)

theorem State.ipSend_segmentOnly {n : Nat} (short : s.cfg.wf → 34 + n < 2 ^ 16) : SegmentOnly s (s.ipSend n) :=
  have finish := s.ipFinish_segmentOnly n
  finish.trans (State.ethTransmit_segmentOnly _ fun hc => by
    have := short (finish.cfg ▸ hc)
    rw [ipHeader]
    omega)

theorem State.tcpChecksum_segmentOnly (tl : Nat) : SegmentOnly s (s.tcpChecksum tl) :=
  (s.txPuts_segmentOnly _ _).trans (State.txPuts_segmentOnly _ _ _)

theorem State.tcpMarked_segmentOnly (n : Nat) : SegmentOnly s (s.tcpMarked n) := by
  unfold State.tcpMarked
  split
  · exact s.txOr_segmentOnly _ _
  · exact .refl s

theorem State.tcpSendFrame_segmentOnly {n : Nat} (short : s.cfg.wf → 54 + n < 2 ^ 16) :
    SegmentOnly s (s.tcpSendFrame n) :=
  have finish := (s.tcpMarked_segmentOnly n).trans (State.tcpChecksum_segmentOnly _ (tcpHeader + n))
  finish.trans (State.ipSend_segmentOnly _ fun hc => by
    have := short (finish.cfg ▸ hc)
    rw [tcpHeader]
    omega)

theorem State.tcpSend_segmentOnly (i : Slot) {n : Nat} (short : s.cfg.wf → 54 + n < 2 ^ 16) :
    SegmentOnly s (s.tcpSend i n) :=
  (s.tcpSendFrame_segmentOnly short).trans (State.setConn_segmentOnly _ _ _)

theorem State.tcpAcquire_segmentOnly (i : Slot) : SegmentOnly s (s.tcpAcquire i) := by
  unfold State.tcpAcquire
  split
  · exact .refl s
  · exact ((s.ipAcquire_segmentOnly _ _).trans (State.txPuts_segmentOnly _ _ _)).trans (State.setConn_segmentOnly _ _ _)

theorem State.arpHandle_segmentOnly (n : Nat) : SegmentOnly s (s.arpHandle n).2 := by
  unfold State.arpHandle
  split
  · exact .refl s
  split
  · exact s.log_segmentOnly _ _
  split
  · exact .refl s
  split
  · exact .refl s
  · exact ((s.ethAcquire_segmentOnly _).trans (State.txPuts_segmentOnly _ _ _)).trans
      (State.ethTransmit_segmentOnly _ fun _ => by decide)

theorem State.tcpCloseBody_segmentOnly (i : Slot) : SegmentOnly s (s.tcpCloseBody i) :=
  ((((s.tcpAcquire_segmentOnly i).trans (State.txOr_segmentOnly _ _ _)).trans
    (State.tcpSend_segmentOnly _ _ fun _ => by decide)).trans (State.setTcpState_segmentOnly _ _ _)).trans
    (State.complete_segmentOnly _ _)

theorem State.runCommandHold_segmentOnly (k : CommandHold) : SegmentOnly s (s.runCommandHold k) := by
  cases k with
  | tcpWait i => exact s.complete_segmentOnly 0
  | tcpClose i => exact s.tcpCloseBody_segmentOnly i

end Segment

/-! ### Receive commands, callbacks and holds (R401 to R407, R551, R601 to R620, R830, R831, R840) -/

/-- `t` differs from `s` at most in what a command that ends as `tail` says can change: what sending changes, the
sequencer, the callback registers and, for POLL, reception.  The host's registers, the errors, MAC, the registry,
MORE_CB and the parameters are kept. -/
structure Handled (tail : Tail) (s t : State) : Prop extends TxDiscipline s t where
  rest : t = { s with
    mem := t.mem, fTxOverwrite := t.fTxOverwrite, txProto := t.txProto, txLen := t.txLen, trace := t.trace
    conns := t.conns, result := t.result, done := t.done, seq := t.seq, cbKind := t.cbKind, cbConn := t.cbConn
    cbSvc := t.cbSvc, cbAddr := t.cbAddr, cbLen := t.cbLen, cbRetval := t.cbRetval, rxLen := t.rxLen
    rxArmed := t.rxArmed }
  reception : tail = .direct → t.rxLen = s.rxLen ∧ t.rxArmed = s.rxArmed

section Handled

variable {tail : Tail} {s t u : State} {g : Segment} {i : Slot}

theorem Handled.refl : Handled tail s s := ⟨TxDiscipline.refl s, rfl, fun _ => ⟨rfl, rfl⟩⟩

theorem Handled.trans (h : Handled tail s t) (k : Handled tail t u) : Handled tail s u where
  toTxDiscipline := h.toTxDiscipline.trans k.toTxDiscipline
  rest := by rw [k.rest, h.rest]
  reception direct := by
    obtain ⟨len, armed⟩ := h.reception direct
    obtain ⟨len', armed'⟩ := k.reception direct
    exact ⟨len'.trans len, armed'.trans armed⟩

theorem Handled.toPoll (h : Handled tail s t) : Handled .poll s t := ⟨h.toTxDiscipline, h.rest, fun e => by cases e⟩

theorem SegmentOnly.handled (h : SegmentOnly s t) : Handled tail s t where
  toTxDiscipline := h.toTxDiscipline
  rest := by rw [h.rest]
  reception _ := by rw [h.rest]; exact ⟨rfl, rfl⟩

theorem State.rearm_txDiscipline (s : State) : TxDiscipline s s.rearm where
  cfg := rfl
  below _ _ _ := rfl
  wf := id
  sticky := id
  busy := id
  trace := List.prefix_append _ _
  flight _ h := h.congr rfl rfl rfl rfl (lastSent_append_rxRearm _)

theorem State.finish_handled (s : State) (tail : Tail) : Handled tail s (s.finish tail) := by
  cases tail with
  | poll => exact ⟨s.rearm_txDiscipline.trans (State.complete_segmentOnly _ _).toTxDiscipline, rfl, fun e => by cases e⟩
  | direct => exact (s.complete_segmentOnly 0).handled

theorem State.setSeq_handled (s : State) (q : Sequencer) : Handled tail s { s with seq := q } :=
  ⟨.of_eq rfl rfl rfl rfl rfl rfl, rfl, fun _ => ⟨rfl, rfl⟩⟩

theorem State.raiseCallback_handled (s : State) (kind : CbKind) (c j : Slot) (a n : Nat) (k : CallbackK) :
    Handled tail s (s.raiseCallback kind c j a n k) := ⟨.of_eq rfl rfl rfl rfl rfl rfl, rfl, fun _ => ⟨rfl, rfl⟩⟩

theorem State.callbackReturn_handled (s : State) (v : Half) : Handled tail s (s.callbackReturn v) :=
  ⟨.of_eq rfl rfl rfl rfl rfl rfl, rfl, fun _ => ⟨rfl, rfl⟩⟩

theorem State.holdThen_handled {body : State → State} (hbody : Handled tail s (body s)) (k : HoldK) :
    Handled tail s (s.holdThen k body) := by
  unfold State.holdThen
  split
  · exact s.setSeq_handled _
  · exact hbody

/-- A handler that sends or records and then ends its command. -/
theorem SegmentOnly.finish_handled (h : SegmentOnly s t) (tail : Tail) : Handled tail s (t.finish tail) :=
  h.handled.trans (t.finish_handled tail)

theorem State.rstBody_handled : Handled tail s (s.rstBody tail g) :=
  ((((s.ipAcquire_segmentOnly _ _).trans (State.txPuts_segmentOnly _ _ _)).trans
    (State.tcpChecksum_segmentOnly _ _)).trans (State.ipSend_segmentOnly _ fun _ => by decide)).finish_handled tail

theorem State.sendRst_handled : Handled tail s (s.sendRst tail g) := State.holdThen_handled State.rstBody_handled _

theorem State.accept_handled : Handled tail s (s.accept tail g) := by
  unfold State.accept
  split
  · exact State.sendRst_handled
  split
  · exact (State.setConn_segmentOnly _ _ _).handled.trans State.sendRst_handled
  · exact (State.setConn_segmentOnly _ _ _).handled.trans (State.raiseCallback_handled _ _ _ _ _ _ _)

theorem State.synAckBody_handled : Handled tail s (s.synAckBody tail i) :=
  (((s.tcpAcquire_segmentOnly i).trans (State.txOr_segmentOnly _ _ _)).trans
    (State.tcpSend_segmentOnly _ _ fun _ => by decide)).finish_handled tail

theorem State.afterAccept_handled : Handled tail s (s.afterAccept tail g i) :=
  State.holdThen_handled State.synAckBody_handled _

theorem State.rxSynReceived_handled : Handled tail s (s.rxSynReceived tail g i) := by
  unfold State.rxSynReceived
  split
  · exact (s.setConn_segmentOnly _ _).finish_handled tail
  · exact s.finish_handled tail

theorem State.estReplyBody_handled : Handled tail s (s.estReplyBody tail g i) := by
  unfold State.estReplyBody
  have reply : SegmentOnly s (if g.fin then ((s.tcpAcquire i).txOr 47 tcpFin).setTcpState i .closeWait
      else s.tcpAcquire i) := by
    split
    · exact ((s.tcpAcquire_segmentOnly i).trans (State.txOr_segmentOnly _ _ _)).trans
        (State.setTcpState_segmentOnly _ _ _)
    · exact s.tcpAcquire_segmentOnly i
  exact (reply.trans (State.tcpSend_segmentOnly _ _ fun _ => by decide)).handled.trans
    (State.holdThen_handled (State.finish_handled _ tail) _)

theorem State.afterProcess_handled : Handled tail s (s.afterProcess tail g i) :=
  State.holdThen_handled State.estReplyBody_handled _

theorem State.rxEstablished_handled : Handled tail s (s.rxEstablished tail g i) := by
  unfold State.rxEstablished
  have acked := (s.setConn_segmentOnly i ((s.conn i).takeAck g)).handled (tail := tail)
  refine acked.trans ?_
  split
  · exact (State.setConn_segmentOnly _ _ _).handled.trans (State.raiseCallback_handled _ _ _ _ _ _ _)
  split
  · exact (State.setConn_segmentOnly _ _ _).handled.trans State.afterProcess_handled
  · exact State.finish_handled _ tail

theorem State.finDoneBody_handled : Handled tail s (s.finDoneBody tail i) :=
  (s.setTcpState_segmentOnly i _).finish_handled tail

theorem State.finReplyBody_handled : Handled tail s (s.finReplyBody tail g i) :=
  ((s.tcpAcquire_segmentOnly i).trans (State.tcpSend_segmentOnly _ _ fun _ => by decide)).handled.trans
    (State.holdThen_handled State.finDoneBody_handled _)

theorem State.rxFinWait1_handled : Handled tail s (s.rxFinWait1 tail g i) := by
  unfold State.rxFinWait1
  have acked := (s.setConn_segmentOnly i ((s.conn i).takeAck g)).handled (tail := tail)
  refine acked.trans ?_
  split
  · exact (State.setConn_segmentOnly _ _ _).handled.trans (State.holdThen_handled State.finReplyBody_handled _)
  split
  · exact (State.setTcpState_segmentOnly _ _ _).finish_handled tail
  · exact State.finish_handled _ tail

theorem State.rxPassiveClose_handled : Handled tail s (s.rxPassiveClose tail g i) := by
  unfold State.rxPassiveClose
  split
  · exact s.raiseCallback_handled _ _ _ _ _ _
  · exact s.finish_handled tail

theorem State.afterClosed_handled : Handled tail s (s.afterClosed tail i) :=
  (s.setConn_segmentOnly i _).finish_handled tail

theorem State.rxMatched_handled : Handled tail s (s.rxMatched tail g i) := by
  unfold State.rxMatched
  split
  · exact s.finish_handled tail
  · exact State.rxSynReceived_handled
  · exact State.rxEstablished_handled
  · exact State.rxFinWait1_handled
  · exact State.rxPassiveClose_handled
  · exact State.rxPassiveClose_handled

theorem State.tcpReceive_handled (s : State) (tail : Tail) (n : Nat) : Handled tail s (s.tcpReceive tail n) := by
  unfold State.tcpReceive State.rxSegment
  split
  · exact s.finish_handled tail
  split
  · exact State.rxMatched_handled
  split
  · exact State.accept_handled
  · exact s.finish_handled tail

theorem State.ipReceive_handled (s : State) (tail : Tail) (n : Nat) : Handled tail s (s.ipReceive tail n) := by
  unfold State.ipReceive
  split
  · exact s.finish_handled tail
  split
  · exact (s.log_segmentOnly _ _).finish_handled tail
  split
  · exact s.tcpReceive_handled tail _
  split
  · exact s.raiseCallback_handled _ _ _ _ _ _
  · exact (s.log_segmentOnly _ _).finish_handled tail

theorem State.ethDispatch_handled (s : State) (tail : Tail) (n : Nat) : Handled tail s (s.ethDispatch tail n) := by
  unfold State.ethDispatch
  split
  · exact s.finish_handled tail
  split
  · exact s.ipReceive_handled tail _
  split
  · exact (s.arpHandle_segmentOnly _).finish_handled tail
  · exact (s.log_segmentOnly _ _).finish_handled tail

theorem State.poll_handled (s : State) : Handled .poll s s.poll := by
  unfold State.poll
  split
  · split
    · exact (s.complete_segmentOnly 1).handled
    · exact s.raiseCallback_handled _ _ _ _ _ _
  split
  · exact (s.complete_segmentOnly 0).handled
  · exact s.ethDispatch_handled .poll _

theorem State.resumeCallback_handled (s : State) (k : CallbackK) : Handled .poll s (s.resumeCallback k) := by
  cases k with
  | more => exact (s.complete_segmentOnly 2).handled
  | udp t => exact (s.finish_handled t).toPoll
  | accept t g f => exact (State.afterAccept_handled (tail := t)).toPoll
  | process t g i => exact (State.afterProcess_handled (tail := t)).toPoll
  | closed t g i => exact (State.afterClosed_handled (tail := t)).toPoll

theorem State.resumeHold_handled (s : State) (k : HoldK) : Handled .poll s (s.resumeHold k) := by
  cases k with
  | command k => exact (s.runCommandHold_segmentOnly k).handled
  | synAck t g f => exact (State.synAckBody_handled (tail := t)).toPoll
  | rst t g => exact (State.rstBody_handled (tail := t)).toPoll
  | estReply t g i => exact (State.estReplyBody_handled (tail := t)).toPoll
  | estDone t g i => exact (s.finish_handled t).toPoll
  | finReply t g i => exact (State.finReplyBody_handled (tail := t)).toPoll
  | finDone t g i => exact (State.finDoneBody_handled (tail := t)).toPoll

theorem State.runCbRet_handled (s : State) (v : Half) : Handled .poll s (s.runCbRet v) := by
  unfold State.runCbRet
  split
  case h_1 k _ => exact (s.callbackReturn_handled v).trans (State.resumeCallback_handled _ k)
  all_goals exact .refl

theorem State.resume_handled (s : State) : Handled .poll s s.resume := by
  unfold State.resume
  split
  · exact .refl
  split
  · exact .refl
  · exact .refl
  · exact (s.setSeq_handled _).trans (State.resumeHold_handled _ _)
  · exact (s.setSeq_handled _).trans (State.runCommandHold_segmentOnly _ _).handled

end Handled

/-! ### Every command -/

/-- How a command may end: CB_RET may end a POLL, and every other command but POLL leaves reception as it is (R401,
R831). -/
def endOf : Instr → Tail
  | .poll | .cbRet _ => .poll
  | _ => .direct

/-- R404, R560, R660: a frame that passes the range check of a send fits TXBUF. -/
theorem State.fits_of_passed {s : State} {checks : List (Bool × CmdError)} (accepted : firstError checks = none) {n : Nat}
    (listed : (s.txTooLong n, .range) ∈ checks) : n ≤ s.cfg.txBufSize :=
  not_lt.1 (mt (s.txTooLong_iff n).2 (Bool.eq_false_iff.1 (firstError_none accepted _ listed)))

/-- R17, R122: the length of a frame in TXBUF fits the 16 bits of TX_LEN. -/
theorem Config.lt_of_fits {c : Config} {n : Nat} (fits : n ≤ c.txBufSize) (hc : c.wf) : n < 2 ^ 16 := by
  obtain ⟨-, -, -, -, htx⟩ := hc
  omega

/-- R834, R840: an accepted nested command, SET_MORE and CB_RET apart, holds, or it builds and sends. -/
theorem State.runAccepted_of_nested {s : State} {i : Instr} (nested : inNestedSet i = true)
    (accepted : firstError (s.commandChecks i) = none) (setMore : ∀ b, i ≠ .setMore b) (cbRet : ∀ v, i ≠ .cbRet v) :
    (∃ k, s.runAccepted i = { s with seq := s.seq.suspend k }) ∨ SegmentOnly s (s.runAccepted i) := by
  have holds (k : CommandHold) : (∃ k', (s.commandHold k fun s => s.runCommandHold k) = { s with seq := s.seq.suspend k' }) ∨
      SegmentOnly s (s.commandHold k fun s => s.runCommandHold k) := by
    unfold State.commandHold
    split
    · exact .inl ⟨k, rfl⟩
    · exact .inr (s.runCommandHold_segmentOnly k)
  cases i with
  | setMore b => exact absurd rfl (setMore b)
  | cbRet v => exact absurd rfl (cbRet v)
  | init | poll | ethRx _ | arpRx _ | ipRx _ | tcpRx _ | svcReg _ _ => exact absurd nested Bool.false_ne_true
  | ethAcq et => exact .inr ((s.ethAcquire_segmentOnly et).trans (State.complete_segmentOnly _ _))
  | ethTx n =>
    have fits : 14 + n.toNat ≤ s.cfg.txBufSize := State.fits_of_passed accepted (by simp [State.commandChecks])
    exact .inr ((s.ethTransmit_segmentOnly (Config.lt_of_fits fits)).trans (State.complete_segmentOnly _ _))
  | csum n => exact .inr (s.complete_segmentOnly _)
  | ipAcq p => exact .inr ((s.ipAcquire_segmentOnly _ p).trans (State.complete_segmentOnly _ _))
  | ipTx n =>
    have fits : 34 + n.toNat ≤ s.cfg.txBufSize := State.fits_of_passed accepted (by simp [State.commandChecks])
    exact .inr ((s.ipSend_segmentOnly (Config.lt_of_fits fits)).trans (State.complete_segmentOnly _ _))
  | tcpFind => exact .inr (s.complete_segmentOnly _)
  | tcpAcq c => exact .inr ((s.tcpAcquire_segmentOnly c).trans (State.complete_segmentOnly _ _))
  | tcpTx c n =>
    have fits : 54 + n.toNat ≤ s.cfg.txBufSize := State.fits_of_passed accepted (by simp [State.commandChecks])
    exact .inr ((s.tcpSend_segmentOnly c (Config.lt_of_fits fits)).trans (State.complete_segmentOnly _ _))
  | tcpWait c => exact holds (.tcpWait c)
  | tcpClose c => exact holds (.tcpClose c)

/-- R801: everything an accepted command can do, INIT, SET_MORE and SVC_REG apart. -/
theorem State.runAccepted_handled {s : State} {i : Instr} (accepted : firstError (s.commandChecks i) = none)
    (init : i ≠ .init) (setMore : ∀ b, i ≠ .setMore b) (svcReg : ∀ j port, i ≠ .svcReg j port) :
    Handled (endOf i) s (s.runAccepted i) := by
  cases i with
  | init => exact absurd rfl init
  | setMore b => exact absurd rfl (setMore b)
  | svcReg j port => exact absurd rfl (svcReg j port)
  | poll => exact s.poll_handled
  | ethRx n => exact s.ethDispatch_handled .direct _
  | arpRx n => exact ((s.arpHandle_segmentOnly _).trans (State.complete_segmentOnly _ _)).handled
  | ipRx n => exact s.ipReceive_handled .direct _
  | tcpRx n => exact s.tcpReceive_handled .direct _
  | cbRet v => exact s.runCbRet_handled v
  | _ =>
    rcases State.runAccepted_of_nested rfl accepted (by simp) (by simp) with ⟨k, held⟩ | built
    · rw [held]
      exact s.setSeq_handled _
    · exact built.handled

/-- R800, R801: everything a command can do: be rejected, initialise, write MORE_CB or a service, or be handled. -/
theorem exec_cases {s t : State} {i : Instr} (run : exec i s = .next t) :
    (∃ e, reportedError s i = some e ∧ t = s.reject e) ∨
    (reportedError s i = none ∧
      ((i = .init ∧ t = s.initialise.rearm.complete 0) ∨
        (∃ b, i = .setMore b ∧ t = State.complete { s with moreCb := b } 0) ∨
        (∃ j port, i = .svcReg j port ∧ t = (s.setSvc j { port := port, valid := true, priv := s.arg0 }).complete 0) ∨
        Handled (endOf i) s t)) := by
  rw [exec_eq_command] at run
  rw [reportedError_eq_firstError_commandChecks]
  rcases s.command_cases (s.commandChecks i) (State.runAccepted i) with ⟨e, failed, rejected⟩ | ⟨passed, accepted⟩
  · exact .inl ⟨e, failed, Host.Outcome.next.inj (run.symm.trans rejected)⟩
  · obtain rfl : t = s.runAccepted i := Host.Outcome.next.inj (run.symm.trans accepted)
    refine .inr ⟨passed, ?_⟩
    cases i with
    | init => exact .inl ⟨rfl, rfl⟩
    | setMore b => exact .inr (.inl ⟨b, rfl, rfl⟩)
    | svcReg j port => exact .inr (.inr (.inl ⟨j, port, rfl, rfl⟩))
    | _ => exact .inr (.inr (.inr (State.runAccepted_handled passed (by simp) (by simp) (by simp))))

theorem State.reject_txDiscipline (s : State) (e : CmdError) : TxDiscipline s (s.reject e) :=
  .of_eq rfl rfl rfl rfl rfl rfl

/-- R231, R400, R404: every command but INIT keeps the discipline of the TX buffer. -/
theorem exec_txDiscipline {s t : State} {i : Instr} (run : exec i s = .next t) (init : i ≠ .init) :
    TxDiscipline s t := by
  rcases exec_cases run with ⟨e, -, rfl⟩ | ⟨-, ⟨rfl, -⟩ | ⟨b, -, rfl⟩ | ⟨j, port, -, rfl⟩ | handled⟩
  · exact s.reject_txDiscipline e
  · exact absurd rfl init
  · exact .of_eq rfl rfl rfl rfl rfl rfl
  · exact .of_eq rfl rfl rfl rfl rfl rfl
  · exact handled.toTxDiscipline

/-! ### The statements -/

/-- Settles O14: R801 by what an accepted command can do. -/
theorem acceptedKeepsErrors : Obligations.AcceptedKeepsErrors := by
  intro i s t noError init run
  rcases exec_cases run with ⟨e, reported, -⟩ | ⟨-, ⟨rfl, -⟩ | ⟨b, -, rfl⟩ | ⟨j, port, -, rfl⟩ | handled⟩
  · rw [noError] at reported
    cases reported
  · exact absurd rfl init
  · exact ⟨rfl, rfl⟩
  · exact ⟨rfl, rfl⟩
  · rw [handled.rest]
    exact ⟨rfl, rfl⟩

/-- Settles O57: R105, R111, R115 and R212 by what a command can do. -/
theorem commandsKeepHostRegisters : Obligations.CommandsKeepHostRegisters := by
  intro i s t run
  rcases exec_cases run with ⟨e, -, rfl⟩ | ⟨-, ⟨rfl, rfl⟩ | ⟨b, -, rfl⟩ | ⟨j, port, -, rfl⟩ | handled⟩
  · exact ⟨rfl, rfl, rfl, rfl, rfl, rfl, rfl, rfl, rfl, fun _ => rfl⟩
  · exact ⟨rfl, rfl, rfl, rfl, rfl, rfl, rfl, rfl, rfl, fun init => absurd rfl init⟩
  · exact ⟨rfl, rfl, rfl, rfl, rfl, rfl, rfl, rfl, rfl, fun _ => rfl⟩
  · exact ⟨rfl, rfl, rfl, rfl, rfl, rfl, rfl, rfl, rfl, fun _ => rfl⟩
  · rw [handled.rest]
    exact ⟨rfl, rfl, rfl, rfl, rfl, rfl, rfl, rfl, rfl, fun _ => rfl⟩

/-- Settles O58: R117 and R202 by the discipline of the TX buffer. -/
theorem commandsKeepRxBuffer : Obligations.CommandsKeepRxBuffer := fun _ _ _ canonical run init =>
  (exec_txDiscipline run init).below canonical

/-- Settles O59: R118, R119, R123 and R140 by what a command can do. -/
theorem registryWriters : Obligations.RegistryWriters := by
  intro i s t run init
  rcases exec_cases run with ⟨e, -, rfl⟩ | ⟨-, ⟨rfl, -⟩ | ⟨b, rfl, rfl⟩ | ⟨j, port, rfl, rfl⟩ | handled⟩
  · exact ⟨fun _ => rfl, fun _ => rfl, fun _ _ => ⟨rfl, rfl⟩⟩
  · exact absurd rfl init
  · exact ⟨fun _ => rfl, fun other => absurd rfl (other b), fun _ _ => ⟨rfl, rfl⟩⟩
  · exact ⟨fun other => absurd rfl (other j port), fun _ => rfl, fun _ _ => ⟨rfl, rfl⟩⟩
  · refine ⟨fun _ => by rw [handled.rest], fun _ => by rw [handled.rest], fun poll cbRet => handled.reception ?_⟩
    cases i with
    | poll => exact absurd rfl poll
    | cbRet v => exact absurd rfl (cbRet v)
    | _ => rfl

/-- Settles O60: R120, R145 and R231 by the discipline of the TX buffer. -/
theorem busyAndFaultSticky : Obligations.BusyAndFaultSticky := fun _ _ _ run init =>
  ⟨(exec_txDiscipline run init).busy, (exec_txDiscipline run init).sticky⟩

/-! ### During a callback (R833, R834, R835) -/

/-- R802, R834: during a callback a command outside the nested set is not accepted. -/
theorem inNestedSet_of_accepted {s : State} {k : CallbackK} (waits : s.seq = .cbWait k) {i : Instr}
    (accepted : firstError (s.commandChecks i) = none) : inNestedSet i = true := by
  by_contra outer
  have reported := reportedError_of_not_nested waits (Bool.eq_false_iff.2 outer)
  rw [reportedError_eq_firstError_commandChecks, accepted] at reported
  cases reported

/-- Settles O17: R833 and R835 by what an accepted nested command does to SEQ and the callback registers. -/
theorem callbackStaysOutstanding : Obligations.CallbackStaysOutstanding := by
  intro i s t k waits cbRet run
  rw [exec_eq_command] at run
  rcases s.command_cases (s.commandChecks i) (State.runAccepted i) with ⟨e, -, rejected⟩ | ⟨passed, accepted⟩
  · obtain rfl : t = s.reject e := Host.Outcome.next.inj (run.symm.trans rejected)
    exact ⟨.inl waits, rfl, rfl, rfl, rfl, rfl⟩
  · obtain rfl : t = s.runAccepted i := Host.Outcome.next.inj (run.symm.trans accepted)
    by_cases more : ∃ b, i = .setMore b
    · obtain ⟨b, rfl⟩ := more
      exact ⟨.inl waits, rfl, rfl, rfl, rfl, rfl⟩
    · have nested := inNestedSet_of_accepted waits passed
      rcases State.runAccepted_of_nested nested passed (not_exists.1 more) cbRet with ⟨c, held⟩ | built
      · rw [held, waits]
        exact ⟨.inr ⟨c, rfl⟩, rfl, rfl, rfl, rfl, rfl⟩
      · rw [built.rest]
        exact ⟨.inl waits, rfl, rfl, rfl, rfl, rfl⟩

end Sys2Proof.Machine

/-! ## One step: the state invariant and the single-flight invariant (R220, R221, R222, R230, R231, R619, R830, R900) -/

namespace Sys2Proof.Machine

/-! ### The state invariant: commands -/

theorem State.Inv.setSvc {s : State} (h : s.Inv) (j : Slot) (v : Svc) (exists_j : j.val < s.cfg.nServ) :
    (s.setSvc j v).Inv :=
  { h with
    svcBeyond := fun k beyond => by
      have other : k ≠ j := by
        rintro rfl
        exact absurd exists_j (not_lt.2 beyond)
      exact (State.svc_setSvc_ne s v other).trans (h.svcBeyond k beyond) }

theorem State.Inv.tcpAcquire {s : State} (h : s.Inv) {i : Slot} (exists_i : i.val < s.cfg.nConn)
    (bound : (s.conn i).remoteIp ≠ 0) : (s.tcpAcquire i).Inv := by
  refine (h.toP i exists_i).tcpAcquire.toInv (fun _ => ?_) ((s.tcpAcquire_segmentOnly i).cfg ▸ exists_i)
  rw [State.conn_tcpAcquire]
  exact bound

/-- R303, R803: an accepted command names an existing connection. -/
theorem State.lt_nConn_of_passed {s : State} {checks : List (Bool × CmdError)} (accepted : firstError checks = none)
    {i : Slot} (listed : (!s.connExists i, .cidx) ∈ checks) : i.val < s.cfg.nConn := by
  simpa [State.connExists] using firstError_none accepted _ listed

/-- R303, R803: an accepted SVC_REG names an existing service slot. -/
theorem State.lt_nServ_of_passed {s : State} {checks : List (Bool × CmdError)} (accepted : firstError checks = none)
    {j : Slot} (listed : (!s.svcExists j, .cidx) ∈ checks) : j.val < s.cfg.nServ := by
  simpa [State.svcExists] using firstError_none accepted _ listed

/-- R802, R803: an accepted command on a connection finds it bound. -/
theorem State.bound_of_passed {s : State} {checks : List (Bool × CmdError)} (accepted : firstError checks = none)
    {i : Slot} (listed : ((s.conn i).free, .connFree) ∈ checks) : (s.conn i).remoteIp ≠ 0 := by
  simpa [Conn.free] using firstError_none accepted _ listed

theorem State.isHeld_of_passed {s : State} {checks : List (Bool × CmdError)}
    (accepted : firstError (s.nestedChecks ++ checks) = none) : s.isHeld = false :=
  firstError_none accepted (s.isHeld, .busy) (by simp [State.nestedChecks])

/-- Every accepted command keeps the state invariant. -/
theorem State.Inv.runAccepted {s : State} (h : s.Inv) {i : Instr} (accepted : firstError (s.commandChecks i) = none) :
    (s.runAccepted i).Inv := by
  cases i with
  | init => exact ((State.Inv.init h (State.outerChecks_idle (cs := []) accepted)).rearm).complete 0
  | poll =>
    have idle := State.outerChecks_idle (cs := []) accepted
    simp only [State.runAccepted, State.poll]
    split
    · split
      · exact h.complete 1
      · exact h.raise .more _ _ _ _ _ rfl rfl (Nat.lt_of_lt_of_le Nat.zero_lt_one h.cfgOk.1.1)
    split
    · exact h.complete 0
    · exact State.Inv.ethDispatch h idle _
  | ethRx n => exact State.Inv.ethDispatch h (State.outerChecks_idle accepted) _
  | arpRx n => exact (State.Inv.arpHandle h _).complete _
  | ipRx n => exact State.Inv.ipReceive h (State.outerChecks_idle accepted) _
  | tcpRx n => exact State.Inv.tcpReceive h (State.outerChecks_idle accepted) _
  | ethAcq et => exact (h.of_txOnly (s.ethAcquire_txOnly et)).complete _
  | ethTx n => exact (h.ethTransmit _ (State.fits_of_passed accepted (by simp [State.commandChecks]))).complete 0
  | setMore b => exact State.Inv.complete (s := { s with moreCb := b }) { h with } 0
  | csum n => exact h.complete _
  | ipAcq p => exact (h.of_txOnly (s.ipAcquire_txOnly _ p)).complete _
  | ipTx n => exact (h.ipSend _ (State.fits_of_passed accepted (by simp [State.commandChecks]))).complete 0
  | tcpFind => exact h.complete _
  | tcpAcq c =>
    have exists_c : c.val < s.cfg.nConn :=
      State.lt_nConn_of_passed accepted (by simp [State.commandChecks, State.connChecks])
    have bound : (s.conn c).remoteIp ≠ 0 :=
      State.bound_of_passed accepted (by simp [State.commandChecks, State.connChecks])
    exact (h.tcpAcquire exists_c bound).complete _
  | tcpTx c n =>
    have exists_c : c.val < s.cfg.nConn :=
      State.lt_nConn_of_passed accepted (by simp [State.commandChecks, State.connChecks])
    have fits : 54 + n.toNat ≤ s.cfg.txBufSize := State.fits_of_passed accepted (by simp [State.commandChecks])
    exact ((h.toP c exists_c).tcpSend exists_c _ fits).complete 0
  | tcpWait c =>
    have exists_c : c.val < s.cfg.nConn := State.lt_nConn_of_passed accepted (by simp [State.commandChecks])
    exact State.Inv.commandHold h (State.isHeld_of_passed accepted) (.tcpWait c) (by simpa [HoldK.slot] using exists_c)
  | tcpClose c =>
    have exists_c : c.val < s.cfg.nConn :=
      State.lt_nConn_of_passed accepted (by simp [State.commandChecks, State.connChecks])
    exact State.Inv.commandHold h (State.isHeld_of_passed accepted) (.tcpClose c) (by simpa [HoldK.slot] using exists_c)
  | svcReg j port =>
    have exists_j : j.val < s.cfg.nServ := State.lt_nServ_of_passed accepted (by simp [State.commandChecks])
    exact (h.setSvc j _ exists_j).complete 0
  | cbRet v =>
    simp only [State.runAccepted, State.runCbRet]
    split
    case h_1 k waits =>
      have exists_k := h.slotsExist
      rw [waits] at exists_k
      exact State.Inv.resumeCallback (State.Inv.callbackReturn h v) rfl k exists_k
    all_goals exact h

/-- R800, R801: every command keeps the state invariant. -/
theorem State.Inv.exec {s t : State} (h : s.Inv) {i : Instr} (run : exec i s = .next t) : t.Inv := by
  rw [exec_eq_command] at run
  exact State.Inv.command h _ _ h.runAccepted run

/-! ### The state invariant: the host, the transport, the block's own step, reset -/

/-- R104, R800: a word written to CMD keeps the state invariant, whether it is a command or not. -/
theorem State.Inv.issue {s t : State} (h : s.Inv) {w : Word} (run : s.issue w = .next t) : t.Inv := by
  have recorded : State.Inv { s with cmdLast := w } := { h with }
  unfold State.issue at run
  split at run
  · exact recorded.exec run
  · obtain rfl := Host.Outcome.next.inj run
    exact recorded.reject _

theorem slotOf_val {n : Nat} (h : n < 16) : (slotOf n).val = n := Nat.mod_eq_of_lt h

theorem State.Inv.writeRegister {s : State} (h : s.Inv) (a : Nat) (v : Word) : (s.writeRegister a v).Inv := by
  unfold State.writeRegister
  split
  · exact { h with }
  · exact { h with }
  · exact { h with }
  · exact { h with }
  split
  next inTable =>
    obtain ⟨low, high, -⟩ := inTable
    obtain ⟨⟨-, slots⟩, -⟩ := h.cfgOk
    have exists_a : (slotOf ((a - 0x100) / 0x20)).val < s.cfg.nConn := by
      rw [slotOf_val (by omega)]
      omega
    exact h.setConn _ _ exists_a (h.boundNotClosed _) (h.pendingBound _) (h.connService _)
  next => exact h

theorem State.writeWindow_txOnly (s : State) (w : Width) (a : Nat) (v : Word) : TxOnly s (s.writeWindow w a v) := by
  unfold State.writeWindow
  split
  · exact s.txPuts_txOnly _ _
  · exact .refl s

theorem State.Inv.hostWrite {s t : State} (h : s.Inv) {w : Width} {a : BitVec 16} {v : Word}
    (run : s.hostWrite w a v = .next t) : t.Inv := by
  have answered (r : BusResponse) : State.Inv { s with bus := r } := { h with }
  unfold State.hostWrite at run
  split at run
  · obtain rfl := Host.Outcome.next.inj run
    exact answered _
  dsimp only at run
  split at run
  · exact (answered _).issue run
  split at run
  · obtain rfl := Host.Outcome.next.inj run
    exact (answered _).writeRegister _ _
  · obtain rfl := Host.Outcome.next.inj run
    exact (answered _).of_txOnly (State.writeWindow_txOnly _ _ _ _)

theorem Memory.mem_writeBytes {vs : List Byte} {m : Memory} {x : Nat} {c : Host.Cell}
    (h : c ∈ Memory.writeBytes m x vs) : (x ≤ c.1 ∧ c.1 < x + vs.length) ∨ c ∈ m := by
  induction vs generalizing m x with
  | nil => exact .inr h
  | cons v vs ih =>
    rw [List.length_cons]
    rcases ih h with inside | h
    · exact .inl (by omega)
    · rcases Memory.mem_write h with ⟨rfl, -⟩ | h
      · exact .inl (by omega)
      · exact .inr h

theorem State.deliverEnabled_iff (s : State) (frame : List Byte) : s.deliverEnabled frame = true ↔
    s.rxArmed = true ∧ 1 ≤ frame.length ∧ frame.length ≤ s.cfg.rxBufSize := by
  simp only [State.deliverEnabled, Bool.and_eq_true, decide_eq_true_eq, and_assoc]

theorem State.Inv.deliver {s : State} (h : s.Inv) (frame : List Byte) : (s.deliver frame).Inv := by
  unfold State.deliver
  split
  next enabled =>
    obtain ⟨-, nonempty, fits⟩ := (s.deliverEnabled_iff frame).1 enabled
    obtain ⟨-, -, ⟨-, rxMax⟩, -⟩ := h.cfgOk
    have len : (BitVec.ofNat 16 frame.length).toNat = frame.length :=
      (BitVec.toNat_ofNat _ _).trans (Nat.mod_eq_of_lt (by omega))
    have lenNonzero : BitVec.ofNat 16 frame.length ≠ 0 := fun zero => by
      rw [zero] at len
      exact absurd len.symm (by simpa [List.length_eq_zero_iff] using Nat.one_le_iff_ne_zero.1 nonempty)
    exact { h with
      memCanonical := Memory.wf_writeBytes _ _ h.memCanonical _
      memInBuffers := fun c hc => by
        rcases Memory.mem_writeBytes hc with inside | old
        · simp only [State.isBufferByte, Bool.or_eq_true, Bool.and_eq_true, decide_eq_true_eq]
          omega
        · exact h.memInBuffers c old
      rxHandOff := (beq_eq_false_iff_ne.2 lenNonzero).symm
      rxFits := len.trans_le fits }
  next => exact h

theorem State.Inv.txComplete {s : State} (h : s.Inv) : s.txComplete.Inv := by
  unfold State.txComplete
  split
  · exact { h with }
  · exact h

theorem State.Inv.resumeHold {s : State} (h : s.Inv) (idle : s.seq = .idle) (k : HoldK)
    (exist : ∀ i, k.slot = some i → i.val < s.cfg.nConn) : (s.resumeHold k).Inv := by
  cases k with
  | command k => exact State.Inv.runHold h k exist
  | synAck t g f => exact State.Inv.synAckBody h (exist f rfl)
  | rst t g => exact State.Inv.rstBody h
  | estReply t g i => exact State.Inv.estReply h idle (exist i rfl)
  | estDone t g i => exact h.finish t
  | finReply t g i => exact State.Inv.finReply h idle (exist i rfl)
  | finDone t g i => exact State.Inv.finDone h (exist i rfl)

theorem State.Inv.resume {s : State} (h : s.Inv) : s.resume.Inv := by
  have kind := h.kindOfCallback
  have conn := h.connOfCallback
  have slots := h.slotsExist
  unfold State.resume
  split
  · exact h
  split
  next => exact h
  next => exact h
  next k held =>
    rw [held] at kind slots
    have idle : State.Inv { s with seq := .idle } :=
      { h with kindOfCallback := kind, connOfCallback := by simp [Sequencer.callback], slotsExist := trivial }
    exact idle.resumeHold rfl k slots
  next outer k held =>
    rw [held] at kind conn slots
    obtain ⟨outerExists, nestedExists⟩ := slots
    have waits : State.Inv { s with seq := .cbWait outer } :=
      { h with kindOfCallback := kind, connOfCallback := conn, slotsExist := outerExists }
    exact State.Inv.runHold waits k nestedExists

/-- R900: the reset state satisfies the invariant, for parameters within their bounds. -/
theorem State.inv_resetWith {c : Config} (hc : c.wf) : (State.resetWith c).Inv where
  cfgOk := hc
  memCanonical := ⟨List.Pairwise.nil, by simp [State.resetWith]⟩
  memInBuffers := by simp [State.resetWith]
  macConstant := rfl
  rxHandOff := rfl
  rxFits := Nat.zero_le _
  txFits := Nat.zero_le _
  boundNotClosed i bound := by
    rw [State.conn_resetWith] at bound
    exact absurd rfl bound
  pendingBound i pending := by
    rw [State.conn_resetWith] at pending
    cases pending
  connService i := by
    rw [State.conn_resetWith]
    exact hc.2.1.1
  connBeyond i _ := State.conn_resetWith c i
  svcBeyond j _ := State.svc_resetWith c j
  kindOfCallback := rfl
  connOfCallback := by simp [State.resetWith, Sequencer.callback]
  slotsExist := trivial

theorem State.Inv.hardReset {s : State} (h : s.Inv) : s.hardReset.Inv := { State.inv_resetWith h.cfgOk with }

/-- R221: every move of every agent keeps the state invariant. -/
theorem State.Inv.turn {s t : State} (h : s.Inv) (move : Turn) (run : s.turn move = .next t) : t.Inv := by
  cases move with
  | hostRead w a =>
    obtain rfl := Host.Outcome.next.inj run
    exact { h with }
  | hostWrite w a v => exact h.hostWrite run
  | deliver frame =>
    obtain rfl := Host.Outcome.next.inj run
    exact h.deliver frame
  | txComplete =>
    obtain rfl := Host.Outcome.next.inj run
    exact h.txComplete
  | resume =>
    obtain rfl := Host.Outcome.next.inj run
    exact h.resume
  | hardReset =>
    obtain rfl := Host.Outcome.next.inj run
    exact h.hardReset

theorem step_of_agenda_nil {s : State} (empty : s.agenda = []) : step s = .next s.resume := by
  rw [step, State.advance, empty]

/-- Settles O8: the invariant holds after every command, every host access, every event of the transport, the block's
own step and reset. -/
theorem stepKeepsInv : Obligations.StepKeepsInv := by
  intro s t h run
  cases next : s.agenda with
  | nil =>
    obtain rfl := Host.Outcome.next.inj ((step_of_agenda_nil next).symm.trans run)
    exact h.resume
  | cons move rest =>
    rw [step_of_agenda next] at run
    exact State.Inv.turn (s := { s with agenda := rest }) { h with } move run

end Sys2Proof.Machine

/-! ## One step: the trace, the frame in flight, the parameters, holds and the transport (R104, R221, R230, R231, R840,
R841, R851, R852, R861) -/

namespace Sys2Proof.Machine

/-! ### What every step keeps -/

/-- What every step of every agent keeps: the parameters, the trace up to new events, and the bytes of a frame in
flight unless the overwrite is flagged. -/
structure StepKeeps (s t : State) : Prop where
  cfg : t.cfg = s.cfg
  trace : s.trace <+: t.trace
  flight : s.cfg.wf → Memory.wf s.mem → s.FlightIntact → t.FlightIntact

theorem TxDiscipline.stepKeeps {s t : State} (h : TxDiscipline s t) : StepKeeps s t :=
  ⟨h.cfg, h.trace, fun hc _ => h.flight hc⟩

/-- R400: INIT frees the TX buffer, so no frame is in flight after it. -/
theorem State.initialise_stepKeeps (s : State) : StepKeeps s (s.initialise.rearm.complete 0) :=
  ⟨rfl, List.prefix_append _ _, fun _ _ _ => State.flightIntact_of_free rfl⟩

theorem exec_stepKeeps (i : Instr) (s : State) : ∃ t, exec i s = .next t ∧ StepKeeps s t := by
  obtain ⟨t, run⟩ : ∃ t, exec i s = .next t := ⟨_, exec_eq_command i s⟩
  refine ⟨t, run, ?_⟩
  by_cases init : i = .init
  · subst init
    rcases exec_cases run with ⟨e, -, rfl⟩ | ⟨-, ⟨-, rfl⟩ | ⟨b, other, -⟩ | ⟨j, port, other, -⟩ | handled⟩
    · exact (s.reject_txDiscipline e).stepKeeps
    · exact s.initialise_stepKeeps
    · cases other
    · cases other
    · exact handled.toTxDiscipline.stepKeeps
  · exact (exec_txDiscipline run init).stepKeeps

theorem State.issue_stepKeeps (s : State) (w : Word) : ∃ t, s.issue w = .next t ∧ StepKeeps s t := by
  unfold State.issue
  split
  · obtain ⟨t, run, cfg, trace, flight⟩ := exec_stepKeeps ‹Instr› { s with cmdLast := w }
    exact ⟨t, run, cfg, trace, fun hc hm h => flight hc hm (h.congr rfl rfl rfl rfl rfl)⟩
  · exact ⟨_, rfl, rfl, List.prefix_rfl, fun _ _ h => h.congr rfl rfl rfl rfl rfl⟩

theorem State.writeRegister_txDiscipline (s : State) (a : Nat) (v : Word) : TxDiscipline s (s.writeRegister a v) := by
  unfold State.writeRegister
  split
  · exact .of_eq rfl rfl rfl rfl rfl rfl
  · exact .of_eq rfl rfl rfl rfl rfl rfl
  · exact .of_eq rfl rfl rfl rfl rfl rfl
  · exact .of_eq rfl rfl rfl rfl rfl rfl
  split
  · exact (s.setConn_segmentOnly _ _).toTxDiscipline
  · exact .refl s

theorem State.writeWindow_txDiscipline (s : State) (w : Width) (a : Nat) (v : Word) :
    TxDiscipline s (s.writeWindow w a v) := by
  unfold State.writeWindow
  split
  · exact (s.txPuts_segmentOnly _ _).toTxDiscipline
  · exact .refl s

theorem State.hostWrite_stepKeeps (s : State) (w : Width) (a : BitVec 16) (v : Word) :
    ∃ t, s.hostWrite w a v = .next t ∧ StepKeeps s t := by
  have answered (r : BusResponse) : TxDiscipline s { s with bus := r } := .of_eq rfl rfl rfl rfl rfl rfl
  unfold State.hostWrite
  split
  · exact ⟨_, rfl, (answered _).stepKeeps⟩
  dsimp only
  split
  · obtain ⟨t, run, cfg, trace, flight⟩ := State.issue_stepKeeps { s with bus := ⟨false, 0⟩ } v
    exact ⟨t, run, cfg, trace, fun hc hm h => flight hc hm (h.congr rfl rfl rfl rfl rfl)⟩
  split
  · exact ⟨_, rfl, ((answered _).trans (State.writeRegister_txDiscipline _ _ _)).stepKeeps⟩
  · exact ⟨_, rfl, ((answered _).trans (State.writeWindow_txDiscipline _ _ _ _)).stepKeeps⟩

/-- R851: a delivered frame lies in RXBUF, below the TX buffer. -/
theorem State.deliver_stepKeeps (s : State) (frame : List Byte) : StepKeeps s (s.deliver frame) := by
  unfold State.deliver
  split
  next enabled =>
    obtain ⟨-, -, fits⟩ := (s.deliverEnabled_iff frame).1 enabled
    refine ⟨rfl, List.prefix_rfl, fun hc canonical h busy safe => (h busy safe).trans ?_⟩
    obtain ⟨-, -, ⟨-, rxMax⟩, -⟩ := hc
    refine congrArg some (Memory.bytes_congr _ _ _ _ fun k _ => ?_)
    rw [Memory.read_writeBytes _ _ canonical, if_neg (by rw [rxBase, txBase]; omega)]
  next => exact (TxDiscipline.refl s).stepKeeps

theorem State.txComplete_stepKeeps (s : State) : StepKeeps s s.txComplete := by
  unfold State.txComplete
  split
  · exact ⟨rfl, List.prefix_rfl, fun _ _ _ => State.flightIntact_of_free rfl⟩
  · exact (TxDiscipline.refl s).stepKeeps

theorem State.turn_stepKeeps (s : State) (move : Turn) : ∃ t, s.turn move = .next t ∧ StepKeeps s t := by
  cases move with
  | hostRead w a => exact ⟨_, rfl, rfl, List.prefix_rfl, fun _ _ h => h.congr rfl rfl rfl rfl rfl⟩
  | hostWrite w a v => exact s.hostWrite_stepKeeps w a v
  | deliver frame => exact ⟨_, rfl, s.deliver_stepKeeps frame⟩
  | txComplete => exact ⟨_, rfl, s.txComplete_stepKeeps⟩
  | resume => exact ⟨_, rfl, s.resume_handled.toTxDiscipline.stepKeeps⟩
  | hardReset => exact ⟨_, rfl, rfl, List.prefix_rfl, fun _ _ _ => State.flightIntact_of_free rfl⟩

theorem step_stepKeeps (s : State) : ∃ t, step s = .next t ∧ StepKeeps s t := by
  cases next : s.agenda with
  | nil => exact ⟨_, step_of_agenda_nil next, s.resume_handled.toTxDiscipline.stepKeeps⟩
  | cons move rest =>
    rw [step_of_agenda next]
    obtain ⟨t, run, cfg, trace, flight⟩ := State.turn_stepKeeps { s with agenda := rest } move
    exact ⟨t, run, cfg, trace, fun hc hm h => flight hc hm (h.congr rfl rfl rfl rfl rfl)⟩

theorem stepKeeps_of_step {s t : State} (run : step s = .next t) : StepKeeps s t := by
  obtain ⟨u, run', keeps⟩ := step_stepKeeps s
  obtain rfl := Host.Outcome.next.inj (run.symm.trans run')
  exact keeps

/-- Settles O9: R222, R230 and R231 by what every step keeps. -/
theorem stepKeepsFlight : Obligations.StepKeepsFlight := fun _ _ inv flight run =>
  (stepKeeps_of_step run).flight inv.cfgOk inv.memCanonical flight

/-- Settles O10: every move has a next state, with the parameters as they were. -/
theorem stepAnswersNext : Obligations.StepAnswersNext := fun s =>
  have ⟨t, run, keeps⟩ := step_stepKeeps s
  ⟨t, run, keeps.cfg⟩

/-- Settles O11: R861 by what every step keeps. -/
theorem traceOnlyGrows : Obligations.TraceOnlyGrows := fun _ _ run => (stepKeeps_of_step run).trace

/-- Settles O7: the reset state has no frame in flight and satisfies the invariant for all parameters within their
bounds, those of `State.reset` among them. -/
theorem invariantsAtReset : Obligations.InvariantsAtReset :=
  have atReset (c : Config) (hc : c.wf) : (State.resetWith c).Inv ∧ (State.resetWith c).FlightIntact :=
    ⟨State.inv_resetWith hc, State.flightIntact_of_free rfl⟩
  ⟨atReset Config.sample (by decide), atReset⟩

/-! ### Commands (R104, R800, R803) -/

/-- R104: a 32-bit write of a word to CMD issues it. -/
theorem State.hostWrite_cmd (s : State) (w : Word) :
    s.hostWrite .w32 0 w = State.issue { s with bus := { error := false, data := 0 } } w := rfl

/-- Settles O12: R104 by the host's write to CMD, and R800 and R803 by the decoder's answer on the word. -/
theorem stepRunsDecodedCommand : Obligations.StepRunsDecodedCommand := by
  intro s w
  refine ⟨fun rest next => ?_, fun i decoded => ?_⟩
  · rw [step_of_agenda next, State.turn, State.hostWrite_cmd]
    refine ⟨fun i decoded => State.issue_of_decode_ok decoded, fun e undecoded => ?_⟩
    rw [State.issue, undecoded]
    rfl
  · have word : BitVec.ofNat 32 (w.toNat % 2 ^ 32) = w := by
      rw [Nat.mod_eq_of_lt w.isLt, BitVec.ofNat_toNat, BitVec.setWidth_eq]
    have next : (s.withFetchWord 32 w.toNat).agenda = .hostWrite .w32 0 w :: s.agenda := by
      rw [State.withFetchWord, word, State.withCommand]
    rw [step_of_agenda next]
    exact State.issue_of_decode_ok (s := { s with bus := { error := false, data := 0 } }) decoded

/-- R803 item 1: in a hold every command is busy. -/
theorem reportedError_of_held {s : State} (held : s.isHeld = true) (i : Instr) : reportedError s i = some .busy := by
  rw [reportedError_eq_firstError]
  simp [errorOrder, firstError, errorApplies, held]

/-- R840: in a hold every word written to CMD is rejected with E_BUSY, a command or not. -/
theorem State.issue_of_held {s : State} (held : s.isHeld = true) (w : Word) :
    s.issue w = .next { s with cmdLast := w, err := some .busy, errCmd := w } := by
  unfold State.issue
  split
  · exact rejectedAsReported { s with cmdLast := w } _ _ (reportedError_of_held held _)
  · rw [held]
    rfl

/-! ### Holds (R840, R841) -/

/-- What a step leaves of a hold. -/
abbrev HoldKept (s t : State) : Prop := t.seq = s.seq ∧ t.txProto = s.txProto

theorem State.writeRegister_holdKept (s : State) (a : Nat) (v : Word) : HoldKept s (s.writeRegister a v) := by
  unfold State.writeRegister
  split
  · exact ⟨rfl, rfl⟩
  · exact ⟨rfl, rfl⟩
  · exact ⟨rfl, rfl⟩
  · exact ⟨rfl, rfl⟩
  split
  · exact ⟨rfl, rfl⟩
  · exact ⟨rfl, rfl⟩

theorem TxOnly.holdKept {s t : State} (h : TxOnly s t) : HoldKept s t := by
  rw [h.rest]
  exact ⟨rfl, rfl⟩

theorem State.hostWrite_holdKept {s t : State} (held : s.isHeld = true) {w : Width} {a : BitVec 16} {v : Word}
    (run : s.hostWrite w a v = .next t) : HoldKept s t := by
  unfold State.hostWrite at run
  split at run
  · obtain rfl := Host.Outcome.next.inj run
    exact ⟨rfl, rfl⟩
  dsimp only at run
  split at run
  · have rejected := State.issue_of_held (s := { s with bus := { error := false, data := 0 } }) held v
    obtain rfl := Host.Outcome.next.inj (run.symm.trans rejected)
    exact ⟨rfl, rfl⟩
  split at run
  · obtain rfl := Host.Outcome.next.inj run
    exact State.writeRegister_holdKept _ _ _
  · obtain rfl := Host.Outcome.next.inj run
    exact (State.writeWindow_txOnly _ _ _ _).holdKept

theorem State.resume_of_busy {s : State} (busy : s.txProto ≠ 0) : s.resume = s := if_pos (bne_iff_ne.2 busy)

theorem State.turn_holdKept {s t : State} (held : s.isHeld = true) (busy : s.txProto ≠ 0) {move : Turn}
    (notComplete : move ≠ .txComplete) (notReset : move ≠ .hardReset) (run : s.turn move = .next t) : HoldKept s t := by
  cases move with
  | hostRead w a =>
    obtain rfl := Host.Outcome.next.inj run
    exact ⟨rfl, rfl⟩
  | hostWrite w a v => exact State.hostWrite_holdKept held run
  | deliver frame =>
    obtain rfl := Host.Outcome.next.inj run
    unfold State.deliver
    split
    · exact ⟨rfl, rfl⟩
    · exact ⟨rfl, rfl⟩
  | resume =>
    obtain rfl := Host.Outcome.next.inj run
    rw [State.resume_of_busy busy]
    exact ⟨rfl, rfl⟩
  | txComplete => exact absurd rfl notComplete
  | hardReset => exact absurd rfl notReset

/-- Settles O21: R840 and R841 by every other move, and by the first check of every command. -/
theorem holdLasts : Obligations.HoldLasts := by
  intro s t held busy notComplete notReset run
  cases next : s.agenda with
  | nil =>
    rw [step_of_agenda_nil next, State.resume_of_busy busy] at run
    obtain rfl := Host.Outcome.next.inj run
    exact ⟨rfl, rfl, fun w written => by cases written⟩
  | cons move rest =>
    rw [next, List.head?_cons, ne_eq, Option.some_inj] at notComplete notReset
    rw [step_of_agenda next] at run
    obtain ⟨seq, txProto⟩ := State.turn_holdKept (s := { s with agenda := rest }) held busy notComplete notReset run
    refine ⟨seq, txProto, fun w written => ?_⟩
    obtain rfl : move = .hostWrite .w32 0 w := Option.some_inj.1 written
    have rejected := State.issue_of_held
      (s := { s with agenda := rest, bus := { error := false, data := 0 } }) held w
    obtain rfl := Host.Outcome.next.inj (run.symm.trans rejected)
    exact ⟨rfl, rfl⟩

/-- Settles O20: R840 by the block's own step, at a busy buffer and at a free one. -/
theorem holdResumes : Obligations.HoldResumes := by
  intro s tail g c outer
  refine ⟨step_of_agenda_nil, fun rest next => step_of_agenda next, fun busy => ?_, fun free => ?_⟩
  · rw [State.turn, State.resume_of_busy busy]
  · rw [State.turn]
    refine ⟨fun held => ?_, fun held => ?_, fun held => ?_, fun held => ?_⟩
    · rw [State.resume_of_hold free held]
      rfl
    · rw [State.resume_of_cbHold free held]
      rfl
    · rw [State.resume_of_hold free held, ← State.finish_eq_ends]
      rfl
    · rw [State.resume_of_hold free held, ← State.finish_eq_ends]
      rfl

/-! ### The transport (R851, R852) -/

theorem State.deliver_of_enabled {s : State} {frame : List Byte}
    (enabled : s.rxArmed = true ∧ 1 ≤ frame.length ∧ frame.length ≤ s.cfg.rxBufSize) :
    s.deliver frame = { s with
      mem := Memory.writeBytes s.mem rxBase frame, rxLen := BitVec.ofNat 16 frame.length, rxArmed := false } :=
  if_pos ((s.deliverEnabled_iff frame).2 enabled)

theorem State.deliver_of_not_enabled {s : State} {frame : List Byte}
    (disabled : ¬ (s.rxArmed = true ∧ 1 ≤ frame.length ∧ frame.length ≤ s.cfg.rxBufSize)) : s.deliver frame = s :=
  if_neg (mt (s.deliverEnabled_iff frame).1 disabled)

/-- Settles O22: R851 by what an enabled delivery writes, and by the move that is not enabled. -/
theorem deliverFrame : Obligations.DeliverFrame := by
  intro s frame rest hs next
  rw [step_of_agenda next, State.turn]
  refine ⟨fun enabled => ⟨_, rfl, ?_, fun k hk => ?_, fun a ha => ?_⟩, fun disabled => ?_⟩
  · rw [State.deliver_of_enabled (s := { s with agenda := rest }) enabled]
  · rw [State.deliver_of_enabled (s := { s with agenda := rest }) enabled, State.rx8, Memory.read_writeBytes _ _ hs.2,
      if_pos (by omega), Nat.add_sub_cancel_left]
  · rw [State.deliver_of_enabled (s := { s with agenda := rest }) enabled, Memory.read_writeBytes _ _ hs.2,
      if_neg (by rw [rxBase]; omega)]
  · rw [State.deliver_of_not_enabled (s := { s with agenda := rest }) disabled]

theorem State.txComplete_of_busy {s : State} (busy : s.txProto ≠ 0) : s.txComplete = { s with
    txProto := 0, wire := s.wire ++ [s.wireFrame]
    freeCount := if s.fTxOverwrite then s.freeCount + s.txLen.toNat else s.freeCount } := if_pos (bne_iff_ne.2 busy)

/-- Settles O23: R852 by the completion with and without a frame in flight. -/
theorem transportCompletes : Obligations.TransportCompletes := by
  intro s rest next
  rw [step_of_agenda next, State.turn]
  refine ⟨fun free => ?_, fun busy => ⟨_, rfl, ?_⟩⟩
  · rw [State.txComplete, if_neg (by rw [State.txBusy, free]; decide)]
  · rw [State.txComplete_of_busy (s := { s with agenda := rest }) busy]

/-- Settles O24: R230 by the frame that a completion puts on the wire while no overwrite is flagged. -/
theorem wireCarriesEventBytes : Obligations.WireCarriesEventBytes := by
  intro s rest next busy safe flight
  rw [step_of_agenda next, State.turn, State.txComplete_of_busy (s := { s with agenda := rest }) busy]
  refine ⟨_, Memory.bytes s.mem txBase s.txLen.toNat, rfl, flight (bne_iff_ne.2 busy) safe, ?_⟩
  have fault : s.fTxOverwrite = false := safe
  simp [State.wireFrame, fault]

end Sys2Proof.Machine

/-! ## The host's registers (R102, R104 to R106, R110 to R116, R118 to R123, R130, R131, R140, R201, R802) -/

namespace Sys2Proof.Machine

/-! ### Register words as numbers -/

theorem toNat_append_eq {m n : Nat} (x : BitVec m) (y : BitVec n) : (x ++ y).toNat = x.toNat * 2 ^ n + y.toNat := by
  rw [BitVec.toNat_append, ← Nat.shiftLeft_add_eq_or_of_lt y.isLt, Nat.shiftLeft_eq]

theorem State.toNat_statusWord (s : State) : s.statusWord.toNat =
    s.seq.code.toNat + 16 * s.done.toNat + 32 * s.errv.toNat + 256 * s.errCode.toNat + 65536 * s.fTxOverwrite.toNat := by
  rw [State.statusWord]
  refine (toNat_append_eq _ _).trans ?_
  simp only [toNat_append_eq, BitVec.toNat_ofBool, BitVec.toNat_ofNat]
  omega

theorem State.toNat_cbInfoWord (s : State) :
    s.cbInfoWord.toNat = s.cbKind.code.toNat + 256 * s.cbConn.val + 4096 * s.cbSvc.val := by
  rw [State.cbInfoWord]
  refine (toNat_append_eq _ _).trans ?_
  simp only [toNat_append_eq, BitVec.toNat_ofFin, BitVec.toNat_ofNat]
  omega

/-- A flag in bit 16 over a half. -/
theorem toNat_flag_append_half (b : Bool) (h : Half) :
    (0#15 ++ BitVec.ofBool b ++ h : Word).toNat = h.toNat + 65536 * b.toNat := by
  refine (toNat_append_eq _ _).trans ?_
  simp only [toNat_append_eq, BitVec.toNat_ofBool, BitVec.toNat_ofNat]
  omega

/-- R10, R11: the numbers of slots, as PARAMS holds them. -/
theorem State.toNat_params {s : State} (hc : s.cfg.wf) :
    (s.readRegister 0x048).toNat = s.cfg.nConn + 256 * s.cfg.nServ := by
  obtain ⟨⟨-, conns⟩, ⟨-, servs⟩, -⟩ := hc
  refine (toNat_append_eq _ _).trans ?_
  simp only [toNat_append_eq, BitVec.toNat_ofNat]
  omega

/-- R17: the buffer sizes, as PARAMS2 holds them. -/
theorem State.toNat_params2 {s : State} (hc : s.cfg.wf) :
    (s.readRegister 0x04C).toNat = s.cfg.rxBufSize + 65536 * s.cfg.txBufSize := by
  obtain ⟨-, -, ⟨-, rx⟩, ⟨-, tx⟩⟩ := hc
  refine (toNat_append_eq _ _).trans ?_
  simp only [BitVec.toNat_ofNat]
  omega

/-! ### The addresses of the two tables (R130, R140) -/

/-- Above the listed registers, and at the one gap between them, only the tables answer. -/
theorem State.readRegister_of_not_listed (s : State) {a : Nat} (h : a = 0x02C ∨ 0x050 ≤ a) :
    s.readRegister a =
      if 0x100 ≤ a ∧ a < 0x100 + 0x20 * s.cfg.nConn then
        (s.conn (slotOf ((a - 0x100) / 0x20))).readWord ((a - 0x100) % 0x20)
      else if 0x400 ≤ a ∧ a < 0x400 + 0x10 * s.cfg.nServ then
        (s.svc (slotOf ((a - 0x400) / 0x10))).readWord ((a - 0x400) % 0x10)
      else 0 := by
  unfold State.readRegister
  split
  case h_20 => rfl
  all_goals omega

theorem slotOf_eq {n : Nat} {i : Slot} (h : n = i.val) : slotOf n = i := Fin.ext (by rw [h, slotOf_val i.isLt])

section Tables

variable {s : State} (hc : s.cfg.wf) {a : Nat}
include hc

theorem State.readRegister_conn {i : Slot} (exists_i : i.val < s.cfg.nConn) {off : Nat} (hoff : off < 0x20) :
    s.readRegister (0x100 + off + 0x20 * i.val) = (s.conn i).readWord off := by
  obtain ⟨⟨-, conns⟩, -⟩ := hc
  have slot : slotOf ((0x100 + off + 0x20 * i.val - 0x100) / 0x20) = i := slotOf_eq (by omega)
  have offset : (0x100 + off + 0x20 * i.val - 0x100) % 0x20 = off := by omega
  rw [State.readRegister_of_not_listed s (by omega), if_pos (by omega), slot,
    offset]

theorem State.readRegister_svc {j : Slot} (exists_j : j.val < s.cfg.nServ) {off : Nat} (hoff : off < 0x10) :
    s.readRegister (0x400 + off + 0x10 * j.val) = (s.svc j).readWord off := by
  obtain ⟨⟨-, conns⟩, -⟩ := hc
  have slot : slotOf ((0x400 + off + 0x10 * j.val - 0x400) / 0x10) = j := slotOf_eq (by omega)
  have offset : (0x400 + off + 0x10 * j.val - 0x400) % 0x10 = off := by omega
  rw [State.readRegister_of_not_listed s (by omega), if_neg (by omega), if_pos (by omega), slot,
    offset]

/-- R201: every address outside the listed registers and the tables reads 0. -/
theorem State.readRegister_eq_zero (h : a = 0x02C ∨ (0x050 ≤ a ∧ a < 0x100) ∨
    (0x100 + 0x20 * s.cfg.nConn ≤ a ∧ a < 0x400) ∨ 0x400 + 0x10 * s.cfg.nServ ≤ a) : s.readRegister a = 0 := by
  obtain ⟨⟨-, conns⟩, -⟩ := hc
  rw [State.readRegister_of_not_listed s (by omega), if_neg (by omega), if_neg (by omega)]

end Tables

/-- Settles O54: each register's word as a number, and the numbers of the coded fields. -/
theorem registerFields : Obligations.RegisterFields := by
  intro s hc
  refine ⟨rfl, rfl, rfl, rfl, ?_, ?_, ?_, ?_, ?_, ?_, rfl, ?_, ?_, rfl, toNat_flag_append_half _ _,
    toNat_flag_append_half _ _, ?_, State.toNat_params hc, State.toNat_params2 hc, fun a _ _ listed => ?_⟩
  · refine s.toNat_statusWord.trans ?_
    have seq : s.seq.code.toNat = match s.seq with
        | .idle => 0
        | .hold _ => 1
        | .cbWait _ => 2
        | .cbHold _ _ => 3 := by cases s.seq <;> rfl
    have err : s.errCode.toNat = match s.err with
        | none => 0
        | some .illegalOpc => 1
        | some .rsvBits => 2
        | some .busy => 3
        | some .reentrant => 4
        | some .cidx => 5
        | some .connFree => 6
        | some .range => 7
        | some .noReply => 8
        | some .etype0 => 9
        | some .notInCb => 10 := by
      unfold State.errCode
      cases s.err with
      | none => rfl
      | some e => cases e <;> rfl
    rw [seq, err]
    rfl
  · exact BitVec.toNat_setWidth_of_le (by decide)
  · refine s.toNat_cbInfoWord.trans ?_
    congr 2
    cases s.cbKind <;> rfl
  · exact BitVec.toNat_setWidth_of_le (by decide)
  · exact BitVec.toNat_setWidth_of_le (by decide)
  · exact BitVec.toNat_setWidth_of_le (by decide)
  · refine (BitVec.toNat_setWidth_of_le (by decide)).trans ?_
    have := s.mac.isLt
    rw [BitVec.extractLsb'_toNat, Nat.shiftRight_eq_div_pow]
    omega
  · exact BitVec.extractLsb'_toNat _ _ _
  · exact BitVec.toNat_setWidth_of_le (by decide)
  · have ⟨⟨_, conns⟩, ⟨_, servs⟩, _⟩ := hc
    exact State.readRegister_eq_zero hc (by omega)

/-- R130, R131: the flags word of a connection block. -/
theorem Conn.toNat_readWord_state (c : Conn) :
    (c.readWord 0x10).toNat = c.state.code.toNat + 16 * c.replyPending.toNat + 256 * c.svc.val := by
  refine (toNat_append_eq _ _).trans ?_
  simp only [toNat_append_eq, BitVec.toNat_ofBool, BitVec.toNat_ofNat, BitVec.toNat_ofFin]
  omega

theorem Conn.toNat_readWord_ports (c : Conn) :
    (c.readWord 0x04).toNat = 65536 * c.localPort.toNat + c.remotePort.toNat := by
  refine (toNat_append_eq _ _).trans ?_
  omega

/-- Settles O55: the words of a block through the block's address, and the addresses that no slot answers. -/
theorem tableBlocks : Obligations.TableBlocks := by
  intro s i hc
  refine ⟨fun exists_i => ?_, fun exists_i => ?_, fun beyond off hoff => ?_, fun beyond off hoff => ?_⟩
  · have word {off : Nat} (hoff : off < 0x20) := State.readRegister_conn hc exists_i hoff
    refine ⟨word (off := 0x00) (by decide), ?_, word (off := 0x08) (by decide), word (off := 0x0C) (by decide), ?_,
      word (off := 0x14) (by decide), word (off := 0x18) (by decide), word (off := 0x1C) (by decide)⟩
    · exact (congrArg BitVec.toNat (word (off := 0x04) (by decide))).trans (s.conn i).toNat_readWord_ports
    · refine (congrArg BitVec.toNat (word (off := 0x10) (by decide))).trans ((s.conn i).toNat_readWord_state.trans ?_)
      congr 2
      cases (s.conn i).state <;> rfl
  · have word {off : Nat} (hoff : off < 0x10) := State.readRegister_svc hc exists_i hoff
    refine ⟨?_, word (off := 0x4) (by decide), word (off := 0x8) (by decide), word (off := 0xC) (by decide)⟩
    exact (congrArg BitVec.toNat (word (off := 0x0) (by decide))).trans (toNat_flag_append_half _ _)
  · exact State.readRegister_eq_zero hc (by omega)
  · exact State.readRegister_eq_zero hc (by omega)

end Sys2Proof.Machine

/-! ## The host's reads and writes (R105, R110, R111, R130, R200, R201, R210 to R212, R231) -/

namespace Sys2Proof.Machine

theorem busError_iff (w : Width) (a : Nat) :
    busError w a = true ↔ a % w.bytes ≠ 0 ∨ (a < 0x4000 ∧ w ≠ .w32) := by
  simp only [busError, inRegisterSpace, Bool.or_eq_true, Bool.and_eq_true, bne_iff_ne, decide_eq_true_eq]

theorem busError_eq_false {w : Width} {a : Nat} (aligned : a % w.bytes = 0) (wide : 0x4000 ≤ a ∨ w = .w32) :
    busError w a = false := by
  rw [Bool.eq_false_iff, ne_eq, busError_iff]
  rintro (h | ⟨low, narrow⟩)
  · exact h aligned
  · exact wide.elim (fun high => absurd low high.not_gt) narrow

/-! ### Reading a window (R201, R211) -/

/-- R201: the byte of a window as a number, 0 beyond the buffers. -/
def State.windowNat (s : State) (a : Nat) : Nat :=
  if (0x4000 ≤ a ∧ a < 0x4000 + s.cfg.rxBufSize) ∨ (0x8000 ≤ a ∧ a < 0x8000 + s.cfg.txBufSize) then
    (Memory.read s.mem a).toNat
  else 0

theorem State.isBufferByte_iff (s : State) (a : Nat) : s.isBufferByte a = true ↔
    (0x4000 ≤ a ∧ a < 0x4000 + s.cfg.rxBufSize) ∨ (0x8000 ≤ a ∧ a < 0x8000 + s.cfg.txBufSize) := by
  simp only [State.isBufferByte, Bool.or_eq_true, Bool.and_eq_true, decide_eq_true_eq]
  rfl

theorem State.toNat_windowByte (s : State) (a : Nat) : (s.windowByte a).toNat = s.windowNat a := by
  unfold State.windowByte State.windowNat
  simp only [State.isBufferByte_iff]
  split <;> rfl

/-- R211: of little-endian lanes the first is the lowest byte, and the others are the same lanes shifted. -/
theorem State.toNat_readLanes_succ (s : State) (a : Nat) {n : Nat} (small : (s.readLanes (a + 1) n).toNat < 2 ^ 24) :
    (s.readLanes a (n + 1)).toNat = s.windowNat a + 256 * (s.readLanes (a + 1) n).toNat := by
  have byte : (BitVec.setWidth 32 (s.windowByte a)).toNat = (s.windowByte a).toNat :=
    BitVec.toNat_setWidth_of_le (by decide)
  have shifted : (s.readLanes (a + 1) n <<< 8).toNat = (s.readLanes (a + 1) n).toNat <<< 8 := by
    rw [BitVec.toNat_shiftLeft, Nat.shiftLeft_eq]
    omega
  rw [State.readLanes, BitVec.toNat_or, byte, shifted, Nat.or_comm,
    ← Nat.shiftLeft_add_eq_or_of_lt (s.windowByte a).isLt, Nat.shiftLeft_eq, State.toNat_windowByte]
  omega

theorem State.windowNat_lt (s : State) (a : Nat) : s.windowNat a < 256 := s.toNat_windowByte a ▸ (s.windowByte a).isLt

theorem State.toNat_readLanes_one (s : State) (a : Nat) : (s.readLanes a 1).toNat = s.windowNat a :=
  s.toNat_readLanes_succ a (n := 0) (show 0 < 2 ^ 24 by decide)

theorem State.toNat_readLanes_two (s : State) (a : Nat) :
    (s.readLanes a 2).toNat = s.windowNat a + 256 * s.windowNat (a + 1) := by
  have := s.windowNat_lt (a + 1)
  have rest := s.toNat_readLanes_one (a + 1)
  rw [s.toNat_readLanes_succ a (by omega), rest]

theorem State.toNat_readLanes_four (s : State) (a : Nat) : (s.readLanes a 4).toNat =
    s.windowNat a + 256 * s.windowNat (a + 1) + 65536 * s.windowNat (a + 2) + 16777216 * s.windowNat (a + 3) := by
  have := s.windowNat_lt (a + 1)
  have := s.windowNat_lt (a + 2)
  have := s.windowNat_lt (a + 3)
  have last : (s.readLanes (a + 2) 2).toNat = s.windowNat (a + 2) + 256 * s.windowNat (a + 3) :=
    s.toNat_readLanes_two (a + 2)
  have rest : (s.readLanes (a + 1) 3).toNat = s.windowNat (a + 1) + 256 * (s.readLanes (a + 2) 2).toNat :=
    s.toNat_readLanes_succ (a + 1) (by rw [last]; omega)
  rw [s.toNat_readLanes_succ a (by omega), rest, last]
  omega

theorem State.readBus_of_error {s : State} {w : Width} {a : Nat} (error : busError w a = true) :
    s.readBus w a = { error := true, data := 0 } := if_pos error

theorem State.readBus_of_window {s : State} {w : Width} {a : Nat} (noError : busError w a = false) (high : 0x4000 ≤ a) :
    s.readBus w a = { error := false, data := s.readLanes a w.bytes } := by
  rw [State.readBus, if_neg (Bool.eq_false_iff.1 noError), if_neg (by simpa [inRegisterSpace] using high)]

theorem State.readBus_of_register {s : State} {w : Width} {a : Nat} (noError : busError w a = false) (low : a < 0x4000) :
    s.readBus w a = { error := false, data := s.readRegister a } := by
  rw [State.readBus, if_neg (Bool.eq_false_iff.1 noError), if_pos (by simpa [inRegisterSpace] using low)]

theorem State.error_readBus (s : State) (w : Width) (a : Nat) : (s.readBus w a).error = busError w a := by
  unfold State.readBus
  split <;> simp [*]

/-- R210, R211, R212: everything a host read answers. -/
theorem State.hostRead_answers (s : State) (w : Width) (a : BitVec 16) :
    ∃ e d, s.hostRead w a = { s with bus := { error := e, data := d } } ∧
      (e = true ↔ a.toNat % w.bytes ≠ 0 ∨ (a.toNat < 0x4000 ∧ w ≠ .w32)) ∧
      (e = true → d = 0) ∧
      (e = false → 0x4000 ≤ a.toNat →
        (w = .w8 → d.toNat = s.windowNat a.toNat) ∧
        (w = .w16 → d.toNat = s.windowNat a.toNat + 256 * s.windowNat (a.toNat + 1)) ∧
        (w = .w32 → d.toNat = s.windowNat a.toNat + 256 * s.windowNat (a.toNat + 1) +
          65536 * s.windowNat (a.toNat + 2) + 16777216 * s.windowNat (a.toNat + 3))) ∧
      (e = false → a.toNat < 0x4000 → d = s.readRegister a.toNat) := by
  refine ⟨busError w a.toNat, (s.readBus w a.toNat).data, ?_, busError_iff w a.toNat, fun error => ?_,
    fun noError high => ?_, fun noError low => ?_⟩
  · rw [← s.error_readBus]
    rfl
  · rw [State.readBus_of_error error]
  · rw [State.readBus_of_window noError high]
    refine ⟨?_, ?_, ?_⟩
    · rintro rfl
      exact s.toNat_readLanes_one _
    · rintro rfl
      exact s.toNat_readLanes_two _
    · rintro rfl
      exact s.toNat_readLanes_four _
  · rw [State.readBus_of_register noError low]

/-- Settles O51: R212 by what a host read answers. -/
theorem hostReads : Obligations.HostReads := by
  intro s w a rest next byte
  rw [step_of_agenda next, State.turn]
  obtain ⟨e, d, answer, claims⟩ := State.hostRead_answers { s with agenda := rest } w a
  exact ⟨e, d, congrArg Host.Outcome.next answer, claims⟩

/-! ### Writing the TX window (R201, R211, R231) -/

@[simp] theorem length_lanes (v : Word) (n : Nat) : (lanes v n).length = n := by
  induction n generalizing v with
  | zero => rfl
  | succ n ih => rw [lanes, List.length_cons, ih]

/-- R211: lane `k` is byte `k` of the word, lowest first. -/
theorem getD_lanes (v : Word) {n k : Nat} (hk : k < n) : (lanes v n).getD k 0 = v.extractLsb' (8 * k) 8 := by
  induction n generalizing v k with
  | zero => omega
  | succ n ih =>
    cases k with
    | zero => rfl
    | succ k =>
      rw [lanes, List.getD_cons_succ, ih _ (by omega)]
      apply BitVec.eq_of_getLsbD_eq
      intro j hj
      rw [BitVec.getLsbD_extractLsb', BitVec.getLsbD_extractLsb', BitVec.getLsbD_ushiftRight]
      congr 2
      omega

/-- R200: beyond TXBUF there is no byte to write. -/
theorem State.txPuts_of_beyond {s : State} {k : Nat} (beyond : s.cfg.txBufSize ≤ k) (vs : List Byte) :
    s.txPuts k vs = s := by
  induction vs generalizing k with
  | nil => rfl
  | cons v vs ih =>
    have put : s.txPut k v = s := if_neg (by omega)
    rw [State.txPuts, put, ih (by omega)]

/-- R200: of the bytes that straddle the end of TXBUF those inside it are written. -/
theorem State.txPuts_eq_take (s : State) (k : Nat) (vs : List Byte) :
    s.txPuts k vs = s.txPuts k (vs.take (s.cfg.txBufSize - k)) := by
  induction vs generalizing s k with
  | nil => rw [List.take_nil]
  | cons v vs ih =>
    by_cases beyond : s.cfg.txBufSize ≤ k
    · rw [State.txPuts_of_beyond beyond, State.txPuts_of_beyond beyond]
    · have cfg := (s.txPut_txOnly k v).cfg
      obtain ⟨room, hroom⟩ : ∃ room, s.cfg.txBufSize - k = room + 1 := ⟨s.cfg.txBufSize - k - 1, by omega⟩
      have rest : (s.txPut k v).cfg.txBufSize - (k + 1) = room := by rw [cfg]; omega
      rw [hroom, List.take_succ_cons, State.txPuts, State.txPuts, ih, rest]

/-- What writing bytes from inside TXBUF on leaves in the memory, those beyond it lost. -/
theorem State.read_txPuts_clipped {s : State} (canonical : Memory.wf s.mem) {k : Nat} (inside : k < s.cfg.txBufSize)
    (vs : List Byte) (a : Nat) : Memory.read (s.txPuts k vs).mem a =
      if txBase + k ≤ a ∧ a < txBase + k + vs.length ∧ a < txBase + s.cfg.txBufSize then
        vs.getD (a - (txBase + k)) 0
      else Memory.read s.mem a := by
  have fits : k + (vs.take (s.cfg.txBufSize - k)).length ≤ s.cfg.txBufSize := by
    rw [List.length_take]
    omega
  rw [State.txPuts_eq_take, State.read_txPuts _ s canonical k fits, List.length_take]
  split <;> split
  · rw [List.getD_eq_getElem?_getD, List.getElem?_take_of_lt (by omega), ← List.getD_eq_getElem?_getD]
  · omega
  · omega
  · rfl

/-- R231: bytes written from inside TXBUF on set the fault bit over a frame in flight. -/
theorem State.fTxOverwrite_txPuts_clipped {s : State} {k : Nat} (inside : k < s.cfg.txBufSize) {vs : List Byte}
    (some_byte : vs ≠ []) : (s.txPuts k vs).fTxOverwrite = (s.fTxOverwrite || s.txProto != 0) := by
  rw [State.txPuts_eq_take]
  refine State.fTxOverwrite_txPuts_of_ne_nil (fun empty => ?_) (by rw [List.length_take]; omega)
  rcases List.take_eq_nil_iff.1 empty with full | none
  · omega
  · exact some_byte none

/-- R211: writing lanes from inside TXBUF on changes those bytes and the fault bit, and nothing else. -/
theorem State.txPuts_lanes {s : State} (canonical : Memory.wf s.mem) {k : Nat} (inside : k < s.cfg.txBufSize) (w : Width)
    (v : Word) :
    (s.txPuts k (lanes v w.bytes) = { s with
      mem := (s.txPuts k (lanes v w.bytes)).mem, fTxOverwrite := s.fTxOverwrite || s.txProto != 0 }) ∧
    ∀ x, Memory.read (s.txPuts k (lanes v w.bytes)).mem x =
      if txBase + k ≤ x ∧ x < txBase + k + w.bytes ∧ x < txBase + s.cfg.txBufSize then
        v.extractLsb' (8 * (x - (txBase + k))) 8
      else Memory.read s.mem x := by
  refine ⟨?_, fun x => ?_⟩
  · have nonempty : lanes v w.bytes ≠ [] := by cases w <;> exact List.cons_ne_nil _ _
    have rest := (s.txPuts_txOnly k (lanes v w.bytes)).rest
    rwa [State.fTxOverwrite_txPuts_clipped inside nonempty] at rest
  · rw [State.read_txPuts_clipped canonical inside, length_lanes]
    split
    · rw [getD_lanes _ (by omega)]
    · rfl

theorem State.hostWrite_of_error {s : State} {w : Width} {a : BitVec 16} (error : busError w a.toNat = true) (v : Word) :
    s.hostWrite w a v = .next { s with bus := { error := true, data := 0 } } := if_pos error

theorem State.hostWrite_of_window {s : State} {w : Width} {a : BitVec 16} (noError : busError w a.toNat = false)
    (high : 0x4000 ≤ a.toNat) (v : Word) :
    s.hostWrite w a v = .next (State.writeWindow { s with bus := { error := false, data := 0 } } w a.toNat v) := by
  rw [State.hostWrite, if_neg (Bool.eq_false_iff.1 noError)]
  dsimp only
  rw [if_neg (by omega), if_neg (by simpa [inRegisterSpace] using high)]

theorem State.hostWrite_of_register {s : State} {a : BitVec 16} (low : a.toNat < 0x4000) (aligned : a.toNat % 4 = 0)
    (notCmd : a.toNat ≠ 0) (v : Word) :
    s.hostWrite .w32 a v = .next (State.writeRegister { s with bus := { error := false, data := 0 } } a.toNat v) := by
  have noError : busError .w32 a.toNat = false := busError_eq_false aligned (.inr rfl)
  rw [State.hostWrite, if_neg (Bool.eq_false_iff.1 noError)]
  dsimp only
  rw [if_neg notCmd, if_pos (by simpa [inRegisterSpace] using low)]

/-- R201: a write to the RX window, or beyond TXBUF, is ignored. -/
theorem State.writeWindow_ignored {s : State} {a : Nat}
    (outside : (0x4000 ≤ a ∧ a < 0x8000) ∨ 0x8000 + s.cfg.txBufSize ≤ a) (w : Width) (v : Word) :
    s.writeWindow w a v = s := by
  unfold State.writeWindow
  split
  next window => exact State.txPuts_of_beyond (by rw [txBase] at *; omega) _
  next => rfl

theorem State.writeWindow_of_inside {s : State} (hc : s.cfg.wf) {k : Nat} (inside : k < s.cfg.txBufSize) (w : Width)
    (v : Word) : s.writeWindow w (txBase + k) v = s.txPuts k (lanes v w.bytes) := by
  obtain ⟨-, -, -, -, txMax⟩ := hc
  rw [State.writeWindow, if_pos (by rw [txBase]; omega), Nat.add_sub_cancel_left]

/-- Settles O52: R201, R211 and R231 by the lanes that lie in TXBUF, and by the writes that are ignored or answered
with an error. -/
theorem hostWritesWindow : Obligations.HostWritesWindow := by
  intro s w a v rest hs next
  rw [step_of_agenda next, State.turn]
  refine ⟨fun error => ?_, fun aligned => ⟨fun low high => ?_, fun outside => ?_⟩⟩
  · rw [State.hostWrite_of_error ((busError_iff w a.toNat).2 error)]
  · obtain ⟨k, hk⟩ : ∃ k, a.toNat = 0x8000 + k := ⟨a.toNat - 0x8000, by omega⟩
    have inside : k < s.cfg.txBufSize := by omega
    have noError : busError w a.toNat = false := busError_eq_false aligned (.inl (by omega))
    rw [State.hostWrite_of_window noError (by omega), hk]
    obtain ⟨changed, read⟩ := State.txPuts_lanes
      (s := { s with agenda := rest, bus := { error := false, data := 0 } }) hs.2 inside w v
    have window := State.writeWindow_of_inside
      (s := { s with agenda := rest, bus := { error := false, data := 0 } }) hs.1 inside w v
    exact ⟨_, congrArg Host.Outcome.next window, changed, read⟩
  · have noError : busError w a.toNat = false := busError_eq_false aligned (.inl (by omega))
    rw [State.hostWrite_of_window noError (by omega)]
    exact congrArg Host.Outcome.next (State.writeWindow_ignored
      (s := { s with agenda := rest, bus := { error := false, data := 0 } }) outside w v)

/-! ### Writing a register (R105, R110, R111, R130) -/

/-- Beside the four listed registers only the PRIV word of a connection is written. -/
theorem State.writeRegister_of_not_listed (s : State) {a : Nat} (h : a ∉ [0x004, 0x008, 0x010, 0x014]) (v : Word) :
    s.writeRegister a v =
      if 0x100 ≤ a ∧ a < 0x100 + 0x20 * s.cfg.nConn ∧ (a - 0x100) % 0x20 = 0x14 then
        s.setConn (slotOf ((a - 0x100) / 0x20)) { s.conn (slotOf ((a - 0x100) / 0x20)) with priv := v }
      else s := by
  unfold State.writeRegister
  split
  case h_5 => rfl
  all_goals simp at h

theorem State.writeRegister_priv {s : State} {i : Slot} (exists_i : i.val < s.cfg.nConn) (v : Word) :
    s.writeRegister (0x114 + 0x20 * i.val) v = s.setConn i { s.conn i with priv := v } := by
  have slot : slotOf ((0x114 + 0x20 * i.val - 0x100) / 0x20) = i := slotOf_eq (by omega)
  rw [State.writeRegister_of_not_listed s (by simp; omega), if_pos (by omega), slot]

theorem State.writeRegister_ignored {s : State} (hc : s.cfg.wf) {a : Nat} (unlisted : a ∉ [0x004, 0x008, 0x010, 0x014])
    (notPriv : ∀ i : Slot, i.val < s.cfg.nConn → a ≠ 0x114 + 0x20 * i.val) (v : Word) : s.writeRegister a v = s := by
  obtain ⟨⟨-, conns⟩, -⟩ := hc
  rw [State.writeRegister_of_not_listed s unlisted, if_neg]
  rintro ⟨low, high, offset⟩
  have bound : (a - 0x100) / 0x20 < s.cfg.nConn := by omega
  exact notPriv ⟨(a - 0x100) / 0x20, by omega⟩ bound (by simp only; omega)

/-- Settles O53: R105, R110, R111 and R130 by the registers a host write reaches. -/
theorem hostWritesRegister : Obligations.HostWritesRegister := by
  intro s a v rest hc next u
  have writes (low : a.toNat < 0x4000) (aligned : a.toNat % 4 = 0) (notCmd : a.toNat ≠ 0) :
      step s = .next (u.writeRegister a.toNat v) := by
    rw [step_of_agenda next, State.turn, State.hostWrite_of_register low aligned notCmd]
  refine ⟨?_, ?_, ?_, ?_, fun i exists_i at_i => ?_, fun low aligned unlisted notPriv => ?_⟩
  · rintro rfl
    exact writes (by decide) (by decide) (by decide)
  · rintro rfl
    exact writes (by decide) (by decide) (by decide)
  · rintro rfl
    exact writes (by decide) (by decide) (by decide)
  · rintro rfl
    refine (writes (by decide) (by decide) (by decide)).trans ?_
    rw [BitVec.ofNat_toNat]
    rfl
  · rw [writes (by omega) (by omega) (by omega), at_i]
    exact congrArg Host.Outcome.next (State.writeRegister_priv (s := u) exists_i v)
  · have numbers : a.toNat ∉ [0x000, 0x004, 0x008, 0x010, 0x014] := by
      simpa [← BitVec.toNat_inj] using unlisted
    rw [List.mem_cons, not_or] at numbers
    obtain ⟨notCmd, unlisted⟩ := numbers
    rw [writes low aligned notCmd]
    exact congrArg Host.Outcome.next (State.writeRegister_ignored (s := u) hc unlisted notPriv v)

end Sys2Proof.Machine

/-! ## The checksum round trip (R500, R504) -/

namespace Sys2Proof.Machine

theorem wordSum_be16 (v : Half) : wordSum (be16 v) = v.toNat := by
  rw [be16, wordSum, wordSum, Nat.add_zero, ← toNat_setWidth_append_byte, BitVec.toNat_setWidth_of_le (by decide)]
  exact congrArg BitVec.toNat (append_getD_be16 v)

/-- A half at an even offset adds its own value to the sum. -/
theorem wordSum_append_be16 {pre : List Byte} (even : pre.length % 2 = 0) (v : Half) (post : List Byte) :
    wordSum (pre ++ be16 v ++ post) = v.toNat + (wordSum pre + wordSum post) := by
  have even' : (pre ++ be16 v).length % 2 = 0 := by rw [List.length_append, length_be16]; omega
  rw [wordSum_append even', wordSum_append even, wordSum_be16]
  omega

/-- R500, R502: the checksum of bytes that fit a buffer is the fold of their exact sum. -/
theorem toNat_foldCarries_checksumAcc {bs : List Byte} (fits : bs.length ≤ 0x4000) :
    (foldCarries (checksumAcc 0 bs)).toNat = onesFold (wordSum bs) := by
  have sum := wordSum_le bs
  rw [toNat_foldCarries, toNat_checksumAcc, show (0 : Word).toNat = 0 from rfl, Nat.zero_add, Nat.mod_eq_of_lt (by omega)]

/-- Settles O34: the stored complement adds to the exact sum what the fold of the sum with a zero field lacks of all
ones. -/
theorem checksumRoundTrip : Obligations.ChecksumRoundTrip := by
  intro pre post even fits
  have length (v : Half) : (pre ++ be16 v ++ post).length ≤ 0x4000 := by
    rw [List.length_append, List.length_append, length_be16]
    exact fits
  have zeroed : (foldCarries (checksumAcc 0 (pre ++ [0, 0] ++ post))).toNat = onesFold (wordSum pre + wordSum post) := by
    rw [show ([0, 0] : List Byte) = be16 0 from rfl, toNat_foldCarries_checksumAcc (length 0),
      wordSum_append_be16 even, show (0 : Half).toNat = 0 from rfl, Nat.zero_add]
  rw [← BitVec.toNat_inj, toNat_foldCarries_checksumAcc (length _), wordSum_append_be16 even, BitVec.toNat_not, zeroed,
    Nat.add_comm]
  exact onesFold_add_complement _

end Sys2Proof.Machine

/-! ## Receive commands that send nothing: the checks, the drops, UDP (R401 to R407, R450, R451, R550 to R553, R600, R601,
R804, R811) -/

namespace Sys2Proof.Machine

/-! ### Accepting a receive command in the idle block (R803) -/

section Accept

variable {s : State} (idle : s.seq = .idle)
include idle

theorem State.firstError_rxTooLong {n : Nat} (fits : n ≤ s.cfg.rxBufSize) :
    firstError (s.outerChecks ++ [(s.rxTooLong n, .range)]) = none := by
  rw [State.firstError_outerChecks_of_idle idle]
  simp [firstError, State.rxTooLong, fits.not_gt]

theorem exec_poll_of_idle : exec .poll s = .next s.poll :=
  State.command_of_accepted (State.firstError_outerChecks idle) _

theorem exec_ethRx_of_idle {n : Half} (fits : n.toNat ≤ s.cfg.rxBufSize) :
    exec (.ethRx n) s = .next (s.ethDispatch .direct n.toNat) :=
  (exec_eq_command _ _).trans (State.command_of_accepted (State.firstError_rxTooLong idle fits) _)

theorem exec_ipRx_of_idle {n : Half} (fits : 14 + n.toNat ≤ s.cfg.rxBufSize) :
    exec (.ipRx n) s = .next (s.ipReceive .direct n.toNat) :=
  (exec_eq_command _ _).trans (State.command_of_accepted (State.firstError_rxTooLong idle fits) _)

theorem exec_tcpRx_of_idle {n : Half} (fits : 34 + n.toNat ≤ s.cfg.rxBufSize) :
    exec (.tcpRx n) s = .next (s.tcpReceive .direct n.toNat) :=
  (exec_eq_command _ _).trans (State.command_of_accepted (State.firstError_rxTooLong idle fits) _)

end Accept

/-- R804: the checks of a command read no byte of RXBUF. -/
theorem errorApplies_of_tx_eq {s : State} {m : Memory} (same : ∀ a, 0x8000 ≤ a → Memory.read m a = Memory.read s.mem a)
    (i : Instr) (e : CmdError) : errorApplies { s with mem := m } i e = errorApplies s i e := by
  have etherType : Memory.read16 m (txBase + 12) = Memory.read16 s.mem (txBase + 12) := by
    rw [Memory.read16, Memory.read16, same _ (by decide), same _ (by decide)]
  cases e with
  | etype0 => simp only [errorApplies, etherType]
  | _ => rfl

/-- Settles O15: R804 by the checks, which read no byte of RXBUF, and by those of the receive commands in the idle
block. -/
theorem receivedBytesNeverReject : Obligations.ReceivedBytesNeverReject := by
  refine ⟨fun s m i same => ?_, fun s n i idle fits => ?_⟩
  · rw [reportedError, funext (errorApplies_of_tx_eq same i), reportedError]
  · have accepted : reportedError s i = none := by
      rw [reportedError_eq_firstError_commandChecks]
      rcases fits with rfl | ⟨rfl, fits⟩ | ⟨rfl | rfl, fits⟩ | ⟨rfl, fits⟩
      · exact State.firstError_outerChecks idle
      all_goals exact State.firstError_rxTooLong idle fits
    have init : i ≠ .init := by
      rintro rfl
      simp at fits
    obtain ⟨t, run⟩ : ∃ t, exec i s = .next t := ⟨_, exec_eq_command i s⟩
    exact ⟨t, run, acceptedKeepsErrors i s t accepted init run⟩

/-- Settles O26: the branches of R401 before the dispatch. -/
theorem pollWithoutDispatch : Obligations.PollWithoutDispatch := by
  intro s idle
  rw [exec_poll_of_idle idle, State.poll]
  refine ⟨fun more busy => ?_, fun more free => ?_, fun more empty => ?_⟩
  · rw [if_pos more, if_pos (show s.txBusy = true from bne_iff_ne.2 busy)]
    rfl
  · rw [if_pos more, if_neg (by rw [State.txBusy, free]; decide)]
    rfl
  · rw [if_neg (Bool.eq_false_iff.1 more), if_pos empty]
    rfl

/-! ### Dropped packets (R811) -/

/-- R860: a dropped packet leaves its log events. -/
def State.logged (s : State) (events : List Event) : State := { s with trace := s.trace ++ events }

theorem State.logged_nil (s : State) : s.logged [] = s := by rw [State.logged, List.append_nil]

theorem State.parseSegment_syn (s : State) (n : Nat) : (s.parseSegment n).syn = s.rxSyn := by
  simp [State.parseSegment, Segment.syn, State.rxSyn]

section Drops

variable {s : State} {n : Nat} {events : List Event} (t : Tail)

theorem State.tcpReceive_of_drop (drop : s.dropTcp n = some events) : s.tcpReceive t n = (s.logged events).finish t := by
  unfold State.dropTcp at drop
  split at drop
  next short =>
    obtain rfl := Option.some_inj.1 drop
    rw [State.logged_nil, State.tcpReceive, if_pos (show n < tcpHeader from short)]
  split at drop
  next long refused =>
    obtain rfl := Option.some_inj.1 drop
    obtain ⟨unmatched, notSyn⟩ := Bool.and_eq_true_iff.1 refused
    have noMatch : s.find (s.parseSegment n).dport (s.parseSegment n).sport = none := Option.isNone_iff_eq_none.1 unmatched
    have syn : (s.parseSegment n).syn = false := by rw [s.parseSegment_syn, State.rxSyn]; simpa using notSyn
    rw [State.logged_nil, State.tcpReceive, if_neg (show ¬ n < tcpHeader from long), State.rxSegment, noMatch]
    simp only [syn, Bool.false_eq_true, if_false]
  next => cases drop

theorem State.ipReceive_of_drop (drop : s.dropIp n = some events) : s.ipReceive t n = (s.logged events).finish t := by
  unfold State.dropIp at drop
  split at drop
  next short =>
    obtain rfl := Option.some_inj.1 drop
    rw [State.logged_nil, State.ipReceive, if_pos (show n < ipHeader from short)]
  next long =>
  rw [State.ipReceive, if_neg (show ¬ n < ipHeader from long)]
  split at drop
  next icmp =>
    obtain rfl := Option.some_inj.1 drop
    rw [if_pos (show s.rx8 23 = protoIcmp from icmp)]
    rfl
  next notIcmp =>
  rw [if_neg (show ¬ s.rx8 23 = protoIcmp from notIcmp)]
  split at drop
  next tcp =>
    rw [if_pos (show s.rx8 23 = protoTcp from tcp)]
    exact State.tcpReceive_of_drop t drop
  next notTcp =>
  rw [if_neg (show ¬ s.rx8 23 = protoTcp from notTcp)]
  split at drop
  next => cases drop
  next notUdp =>
    obtain rfl := Option.some_inj.1 drop
    rw [if_neg (show ¬ s.rx8 23 = protoUdp from notUdp), BitVec.ofNat_toNat]
    rfl

theorem State.arpHandle_of_drop (drop : s.dropArp n = some events) : s.arpHandle n = (0, s.logged events) := by
  unfold State.dropArp at drop
  split at drop
  next short =>
    obtain rfl := Option.some_inj.1 drop
    rw [State.logged_nil, State.arpHandle, if_pos (show n < arpPacket from short)]
  next long =>
  rw [State.arpHandle, if_neg (show ¬ n < arpPacket from long)]
  split at drop
  next wrongType =>
    obtain rfl := Option.some_inj.1 drop
    have argument : BitVec.ofNat 32 ((s.rx16 14).toNat * 65536 + (s.rx16 16).toNat) = s.rx16 14 ++ s.rx16 16 :=
      BitVec.eq_of_toNat_eq (by
        have := (s.rx16 14).isLt
        have := (s.rx16 16).isLt
        rw [toNat_append_eq, BitVec.toNat_ofNat]
        omega)
    rw [if_pos (show s.rx16 14 ≠ arpHardwareType ∨ s.rx16 16 ≠ arpProtocolType from wrongType), argument]
    rfl
  next rightType =>
  rw [if_neg (show ¬ (s.rx16 14 ≠ arpHardwareType ∨ s.rx16 16 ≠ arpProtocolType) from rightType)]
  split at drop
  next notRequest =>
    obtain rfl := Option.some_inj.1 drop
    rw [State.logged_nil, if_pos (show s.rx16 20 ≠ arpRequest from notRequest)]
  next request =>
  rw [if_neg (show ¬ s.rx16 20 ≠ arpRequest from request)]
  split at drop
  next notForUs =>
    obtain rfl := Option.some_inj.1 drop
    rw [State.logged_nil, if_pos notForUs]
  next => cases drop

theorem State.ethDispatch_of_drop (drop : s.dropEth n = some events) : s.ethDispatch t n = (s.logged events).finish t := by
  unfold State.dropEth at drop
  split at drop
  next short =>
    obtain rfl := Option.some_inj.1 drop
    rw [State.logged_nil, State.ethDispatch, if_pos (show n < ethHeader from short)]
  next long =>
  rw [State.ethDispatch, if_neg (show ¬ n < ethHeader from long)]
  split at drop
  next ip =>
    rw [if_pos (show s.rx16 12 = etherTypeIpv4 from ip)]
    exact State.ipReceive_of_drop t drop
  next notIp =>
  rw [if_neg (show ¬ s.rx16 12 = etherTypeIpv4 from notIp)]
  split at drop
  next arp => rw [if_pos (show s.rx16 12 = etherTypeArp from arp), ethHeader, State.arpHandle_of_drop drop]
  next notArp =>
    obtain rfl := Option.some_inj.1 drop
    rw [if_neg (show ¬ s.rx16 12 = etherTypeArp from notArp), BitVec.ofNat_toNat]
    rfl

end Drops

/-- Settles O27: R811 by the handlers of a dropped packet, on each command that can receive it. -/
theorem droppedPackets : Obligations.DroppedPackets := by
  refine ⟨⟨rfl, rfl, rfl, rfl, rfl⟩, fun s events idle => ⟨fun more frame drop => ?_, fun n => ⟨fun fits drop => ?_,
    fun fits drop => ?_, fun fits drop => ?_, fun fits drop => ?_⟩⟩⟩
  · rw [exec_poll_of_idle idle, State.poll, if_neg (Bool.eq_false_iff.1 more), if_neg frame,
      State.ethDispatch_of_drop .poll drop]
    rfl
  · rw [exec_ethRx_of_idle idle fits, State.ethDispatch_of_drop .direct drop]
    rfl
  · rw [exec_arpRx idle fits, State.arpHandle_of_drop drop]
    rfl
  · rw [exec_ipRx_of_idle idle fits, State.ipReceive_of_drop .direct drop]
    rfl
  · rw [exec_tcpRx_of_idle idle fits, State.tcpReceive_of_drop .direct drop]
    rfl

/-! ### Callbacks that return (R401, R553, R620, R710, R831) -/

/-- R710, R803: during a callback CB_RET is accepted, and the outer command goes on. -/
theorem exec_cbRet_of_cbWait {s : State} {k : CallbackK} (waits : s.seq = .cbWait k) (v : Half) :
    exec (.cbRet v) s = .next ((s.callbackReturn v).resumeCallback k) := by
  have accepted : firstError (s.commandChecks (.cbRet v)) = none := by
    simp [State.commandChecks, State.nestedChecks, firstError, State.isHeld_of_cbWait waits,
      State.isIdle_of_cbWait waits]
  rw [exec_eq_command, State.command_of_accepted accepted, State.runAccepted, State.runCbRet, waits]

theorem State.holdThen_of_busy {s : State} (busy : s.txProto ≠ 0) (k : HoldK) (body : State → State) :
    s.holdThen k body = { s with seq := .hold k } := if_pos (bne_iff_ne.2 busy)

theorem State.holdThen_of_free {s : State} (free : s.txProto = 0) (k : HoldK) (body : State → State) :
    s.holdThen k body = body s := if_neg (by rw [State.txBusy, free]; decide)

/-- Settles O18: R831 by the continuation of each callback. -/
theorem callbackReturns : Obligations.CallbackReturns := by
  intro s v tail g c u
  refine ⟨fun waits => ?_, fun waits => ?_, fun waits => ?_, fun waits busy => ?_, fun waits busy => ?_⟩
  · rw [exec_cbRet_of_cbWait waits]
    rfl
  · rw [exec_cbRet_of_cbWait waits, ← State.finish_eq_ends]
    rfl
  · rw [exec_cbRet_of_cbWait waits, ← State.finish_eq_ends]
    rfl
  · rw [exec_cbRet_of_cbWait waits]
    exact congrArg Host.Outcome.next (State.holdThen_of_busy (s := u) busy (.synAck tail g c) fun s => s.synAckBody tail c)
  · rw [exec_cbRet_of_cbWait waits]
    exact congrArg Host.Outcome.next (State.holdThen_of_busy (s := u) busy (.estReply tail g c) fun s => s.estReplyBody tail g c)

/-! ### UDP (R551, R553) -/

theorem State.ipReceive_of_udp {s : State} (proto : s.rx8 23 = 17) (t : Tail) (len : Nat) :
    s.ipReceive t (20 + len) = s.udpDeliver t len := by
  rw [State.ipReceive, if_neg (by rw [ipHeader]; omega), if_neg (by rw [proto]; decide), if_neg (by rw [proto]; decide),
    if_pos (show s.rx8 23 = protoUdp from proto), ipHeader, Nat.add_sub_cancel_left]

theorem State.ethDispatch_of_ipv4 {s : State} (etherType : s.rx16 12 = 0x0800) (t : Tail) (n : Nat) :
    s.ethDispatch t (14 + n) = s.ipReceive t n := by
  rw [State.ethDispatch, if_neg (by rw [ethHeader]; omega), if_pos (show s.rx16 12 = etherTypeIpv4 from etherType),
    ethHeader, Nat.add_sub_cancel_left]

theorem State.ethDispatch_of_udp {s : State} (etherType : s.rx16 12 = 0x0800) (proto : s.rx8 23 = 17) (t : Tail)
    (len : Nat) : s.ethDispatch t (34 + len) = s.udpDeliver t len := by
  rw [show 34 + len = 14 + (20 + len) by omega, State.ethDispatch_of_ipv4 etherType, State.ipReceive_of_udp proto]

/-- R401: with a frame received and no MORE callback, POLL dispatches it. -/
theorem exec_poll_of_frame {s : State} (idle : s.seq = .idle) (more : s.moreCb = false) (frame : s.rxLen ≠ 0) :
    exec .poll s = .next (s.ethDispatch .poll s.rxLen.toNat) := by
  rw [exec_poll_of_idle idle, State.poll, if_neg (Bool.eq_false_iff.1 more), if_neg frame]

/-- R401, R406, R407, R550, R551: each receive command hands its datagram to the UDP dispatcher. -/
theorem exec_of_handsUdp {s : State} {cmd : Instr} {t : Tail} {len : Nat} (idle : s.seq = .idle)
    (hands : s.HandsUdp cmd t len) : exec cmd s = .next (s.udpDeliver t len) := by
  rcases hands with ⟨rfl, rfl, more, etherType, proto, length⟩ |
    ⟨rfl, n, ⟨rfl, fits, etherType, proto, length⟩ | ⟨rfl, fits, proto, length⟩⟩
  · have frame : s.rxLen ≠ 0 := fun h => by simp [h] at length; omega
    rw [exec_poll_of_frame idle more frame, length, State.ethDispatch_of_udp etherType proto]
  · rw [exec_ethRx_of_idle idle fits, length, State.ethDispatch_of_udp etherType proto]
  · rw [exec_ipRx_of_idle idle fits, length, State.ipReceive_of_udp proto]

/-- Settles O19: R553 by the dispatcher's callback, and R831 by its return. -/
theorem udpDelivered : Obligations.UdpDelivered := by
  intro s cmd tail len
  refine ⟨fun idle hands => exec_of_handsUdp idle hands, fun waits v => ?_⟩
  rw [exec_cbRet_of_cbWait waits, ← State.finish_eq_ends]
  rfl

/-! ### An ARP frame (R407, R451, R452) -/

theorem State.ethDispatch_of_arpRequest {s : State} (etherType : s.rx16 12 = 0x0806) {n : Nat}
    (request : s.ArpRequestForUs (n - 14)) (t : Tail) : s.ethDispatch t n = s.arpReply.finish t := by
  have long := request.1
  rw [State.ethDispatch, if_neg (by rw [ethHeader]; omega), if_neg (by rw [etherType]; decide),
    if_pos (show s.rx16 12 = etherTypeArp from etherType), ethHeader, State.arpHandle_of_request request]

/-- Settles O32: R407 by the dispatch of an ARP frame, and R452 by the reply, which each command ends in its own way. -/
theorem arpFrameDispatched : Obligations.ArpFrameDispatched := by
  intro s hs idle etherType
  refine ⟨fun more request => ⟨s.arpReply.finish .poll, ?_, ?_, ?_⟩,
    fun n fits request => ⟨s.arpReply.finish .direct, ?_, ?_, ?_⟩⟩
  · have frame : s.rxLen ≠ 0 := fun h => by simpa [h] using request.1
    rw [exec_poll_of_frame idle more frame, State.ethDispatch_of_arpRequest etherType request]
  · refine State.arpReplySent_of_built hs (State.mem_arpReply hs) (State.txProto_arpReply hs) (State.txLen_arpReply hs) ?_
    exact (congrArg (· ++ [Event.rxRearm]) (State.trace_arpReply hs)).trans (List.append_assoc _ _ _)
  · exact congrArg (State.finish · .poll) (State.arpReply_eq hs)
  · rw [exec_ethRx_of_idle idle fits, State.ethDispatch_of_arpRequest etherType request]
  · exact State.arpReplySent_of_built hs (State.mem_arpReply hs) (State.txProto_arpReply hs) (State.txLen_arpReply hs)
      (State.trace_arpReply hs)
  · exact congrArg (State.complete · 0) (State.arpReply_eq hs)

end Sys2Proof.Machine

/-! ## The segments a connection receives (R601 to R619, R830, R840) -/

namespace Sys2Proof.Machine

/-! ### The parsed fields (R346, R602, R603) -/

section Parsed

variable (s : State) (len : Nat)

theorem State.fin_parseSegment : (s.parseSegment len).fin = s.rxFin := by
  simp [State.parseSegment, Segment.fin, State.rxFin]

theorem State.headerLen_parseSegment : (s.parseSegment len).headerLen = s.rxHeaderLen := by
  have byte := (s.rx8 46).isLt
  simp only [State.parseSegment, Segment.headerLen, State.rxHeaderLen, BitVec.extractLsb'_toNat, Nat.shiftRight_eq_div_pow]
  omega

theorem State.hasData_parseSegment_iff : (s.parseSegment len).hasData = true ↔ s.rxHeaderLen < len := by
  rw [Segment.hasData, decide_eq_true_iff, Segment.dataLen, State.headerLen_parseSegment]
  show (0 : Int) < (len : Int) - _ ↔ _
  omega

theorem State.dataLen_parseSegment : (s.parseSegment len).dataLen.toNat = len - s.rxHeaderLen := by
  rw [Segment.dataLen, State.headerLen_parseSegment]
  exact Int.toNat_sub len s.rxHeaderLen

/-- R616, R617: REMOTE_SEQ advances by the data length, or by 1 without data. -/
theorem State.advance_parseSegment : (s.parseSegment len).advance =
    if s.rxHeaderLen < len then BitVec.ofNat 32 (len - s.rxHeaderLen) else 1 := by
  rw [Segment.advance, State.dataLen_parseSegment]
  exact if_congr (s.hasData_parseSegment_iff len) rfl rfl

theorem State.takeAck_parseSegment (i : Slot) : (s.conn i).takeAck (s.parseSegment len) = s.acked i := by
  rw [Conn.takeAck, State.ack_parseSegment, State.acked]
  cases s.rxAck <;> rfl

end Parsed

/-- R601: the segment of a receive command goes to the connection it matches. -/
theorem exec_of_matched {s : State} {cmd : Instr} {tail : Tail} {len : Nat} {i : Slot}
    (arrives : s.TcpArrives cmd tail len) (least : Least s.Matched i) :
    exec cmd s = .next (s.rxMatched tail (s.parseSegment len) i) := by
  rw [exec_of_tcpArrives arrives, State.rxSegment_of_matched least]

/-- R606: a SYN that matches no connection is offered to the services. -/
theorem exec_of_unmatched_syn {s : State} {cmd : Instr} {tail : Tail} {len : Nat}
    (arrives : s.TcpArrives cmd tail len) (syn : s.rxSyn = true) (unmatched : ∀ i, ¬ s.Matched i) :
    exec cmd s = .next (s.accept tail (s.parseSegment len)) := by
  have none : s.find (s.parseSegment len).dport (s.parseSegment len).sport = none := s.find_eq_none_iff.2 unmatched
  have isSyn : (s.parseSegment len).syn = true := (s.parseSegment_syn len).trans syn
  rw [exec_of_tcpArrives arrives, State.rxSegment, none]
  simp only [isSyn, if_true]

/-! ### CLOSE_WAIT, CLOSING and CLOSED (R618, R619) -/

theorem State.rxPassiveClose_of_ack {s : State} {len : Nat} (ack : s.rxAck = true) (bare : len ≤ s.rxHeaderLen)
    (tail : Tail) (i : Slot) : s.rxPassiveClose tail (s.parseSegment len) i =
      s.raiseCallback .closed i (s.conn i).svc 0 0 (.closed tail (s.parseSegment len) i) := by
  have noData : ¬ (s.parseSegment len).hasData = true := by rw [s.hasData_parseSegment_iff]; omega
  rw [State.rxPassiveClose, s.ack_parseSegment, ack, Bool.eq_false_iff.2 noData]
  rfl

theorem State.rxPassiveClose_of_other {s : State} {len : Nat} (other : ¬ (s.rxAck = true ∧ len ≤ s.rxHeaderLen))
    (tail : Tail) (i : Slot) : s.rxPassiveClose tail (s.parseSegment len) i = s.finish tail := by
  refine if_neg fun h => other ?_
  rw [s.ack_parseSegment, Bool.and_eq_true, Bool.not_eq_true', ← Bool.not_eq_true, s.hasData_parseSegment_iff] at h
  exact ⟨h.1, Nat.not_lt.1 h.2⟩

theorem State.rxMatched_of_passive {s : State} {i : Slot}
    (state : (s.conn i).state = .closing ∨ (s.conn i).state = .closeWait) (tail : Tail) (g : Segment) :
    s.rxMatched tail g i = s.rxPassiveClose tail g i := by
  rcases state with state | state <;> rw [State.rxMatched, state]

/-- Settles O49: R618 by its one condition, and R619. -/
theorem passiveCloseReceives : Obligations.PassiveCloseReceives := by
  intro s cmd tail len i arrives least
  rw [exec_of_matched arrives least]
  refine ⟨fun passive => ?_, fun closed => ?_⟩
  · rw [State.rxMatched_of_passive passive]
    refine ⟨fun ⟨ack, bare⟩ => ⟨s.parseSegment len, ?_⟩, fun other => ?_⟩
    · rw [State.rxPassiveClose_of_ack ack bare]
      rfl
    · rw [State.rxPassiveClose_of_other other, State.finish_eq_ends]
  · rw [State.rxMatched, closed, ← State.finish_eq_ends]

/-! ### Accept (R610, R611) -/

/-- R610: what `Accept` looks for in the connections. -/
theorem State.freeAt_iff (s : State) (i : Slot) : (s.connExists i && (s.conn i).free) = true ↔ s.FreeAt i := by
  simp [State.connExists, Conn.free]

/-- R611: what `Accept` looks for in the registry, for the destination port of the segment in RXBUF. -/
theorem State.serves_iff (s : State) (j : Slot) :
    (s.svcExists j && (s.svc j).valid && (s.svc j).port == s.rx16 36) = true ↔ s.Serves j := by
  simp [State.svcExists, and_assoc]

theorem State.freeSlot_eq_some_iff (s : State) (f : Slot) : s.freeSlot = some f ↔ Least s.FreeAt f := by
  simp only [State.freeSlot, find?_allSlots_eq_some_iff, State.freeAt_iff]

theorem State.freeSlot_eq_none_iff (s : State) : s.freeSlot = none ↔ ∀ i, ¬ s.FreeAt i := by
  simp only [State.freeSlot, find?_allSlots_eq_none_iff, State.freeAt_iff]

theorem State.findService_eq_some_iff (s : State) (j : Slot) :
    s.findService (s.rx16 36) = some j ↔ Least s.Serves j := by
  simp only [State.findService, find?_allSlots_eq_some_iff, State.serves_iff]

theorem State.findService_eq_none_iff (s : State) : s.findService (s.rx16 36) = none ↔ ∀ j, ¬ s.Serves j := by
  simp only [State.findService, find?_allSlots_eq_none_iff, State.serves_iff]

/-- Settles O42: R610 and R611 by the two scans of `Accept`. -/
theorem acceptRaisesCallback : Obligations.AcceptRaisesCallback := by
  intro s cmd tail len f j arrives syn unmatched freeAt serves
  refine ⟨s.parseSegment len, ?_⟩
  have service : s.findService (s.parseSegment len).dport = some j := (s.findService_eq_some_iff j).2 serves
  rw [exec_of_unmatched_syn arrives syn unmatched, State.accept, (s.freeSlot_eq_some_iff f).2 freeAt]
  simp only [service]
  rfl

/-! ### RST (R613) -/

/-- R613: the RST+ACK for the segment `g`, not sent yet. -/
def State.rstSegment (s : State) (g : Segment) : State :=
  s.buildSegment g.srcIp g.dport g.sport 0 (g.sseq + 1) (tcpRst ||| tcpAck) 0

theorem State.rstSegment_txOnly (s : State) (g : Segment) : TxOnly s (s.rstSegment g) := State.buildSegment_txOnly

theorem State.rstBody_eq (s : State) (tail : Tail) (g : Segment) :
    s.rstBody tail g = ((s.rstSegment g).tcpSendFrame 0).finish tail := by
  rw [State.tcpSendFrame, if_neg (Nat.lt_irrefl 0), Nat.add_zero]
  rfl

section Finish

variable (s : State) (tail : Tail)

theorem State.finish_mem : (s.finish tail).mem = s.mem := by cases tail <;> rfl

theorem State.finish_txProto : (s.finish tail).txProto = s.txProto := by cases tail <;> rfl

theorem State.finish_txLen : (s.finish tail).txLen = s.txLen := by cases tail <;> rfl

theorem State.finish_seq : (s.finish tail).seq = s.seq := by cases tail <;> rfl

theorem State.finish_trace : (s.finish tail).trace = s.trace ++ tail.events := by
  cases tail
  · rfl
  · exact (List.append_nil _).symm

/-- R410: how a command ends does not depend on what it has sent. -/
theorem State.finish_endedAs {u : State} (rxLen : u.rxLen = s.rxLen) (rxArmed : u.rxArmed = s.rxArmed) :
    EndedAs s (u.finish tail) tail := by
  cases tail
  · exact ⟨rfl, rfl, rfl, rfl⟩
  · exact ⟨rxLen, rxArmed, rfl, rfl⟩

end Finish

section Rst

variable {s : State} (hs : s.Ok) (g : Segment)
include hs

theorem State.etherType_rstSegment : (s.rstSegment g).tx16 12 = 0x0800 := (State.segmentBuilt hs).eth.etherType

/-- R231, R404, R613: all that sending an RST from a free TX buffer changes. -/
theorem State.tcpSendFrame_rstSegment (free : s.txProto = 0) :
    (s.rstSegment g).tcpSendFrame 0 = { s with
      mem := ((s.rstSegment g).segmentFinish 0).mem, txProto := 0x0800, txLen := 54
      trace := s.trace ++ [.frameSent (Memory.bytes ((s.rstSegment g).segmentFinish 0).mem 0x8000 54) 54] } := by
  have only := s.rstSegment_txOnly g
  have quiet : (s.rstSegment g).fTxOverwrite = s.fTxOverwrite := by
    rw [State.rstSegment, State.fTxOverwrite_buildSegment hs.1, free, bne_self_eq_false, Bool.or_false]
  have rest := only.rest
  rw [State.tcpSendFrame_of_etherType_ne_zero (only.ok hs) ((State.etherType_rstSegment hs g).trans_ne (by decide)),
    State.etherType_rstSegment hs, quiet]
  generalize ((s.rstSegment g).segmentFinish 0).mem = m
  rw [quiet] at rest
  rw [rest, free, bne_self_eq_false, Bool.or_false]
  rfl

/-- R613: what `SendRst()` leaves of `s` when its hold has passed. -/
theorem State.rstBody_segmentSent (free : s.txProto = 0) (tail : Tail) :
    SegmentSent s (s.rstBody tail g) g.srcIp g.dport g.sport 0 (g.sseq + 1) 0x14 0 tail.events := by
  have ok : (s.rstSegment g).Ok := (s.rstSegment_txOnly g).ok hs
  have room : 54 + 0 ≤ (s.rstSegment g).cfg.txBufSize := tcpHeader_fits ok.1
  have sent := State.tcpSendFrame_rstSegment hs g free
  have mem : (s.rstBody tail g).mem = ((s.rstSegment g).segmentFinish 0).mem := by
    rw [State.rstBody_eq, State.finish_mem, State.mem_tcpSendFrame]
  have built : SegmentBuilt s (s.rstBody tail g) g.srcIp g.dport g.sport 0 (g.sseq + 1) 0x14 0 :=
    (State.segmentBuilt hs).of_read (fun a ha => by rw [mem, State.read_segmentFinish 0 ok ha]; rfl) (by
      rw [State.tx8_of_mem mem, State.flags_segmentFinish 0 ok, if_pos rfl]
      exact BitVec.or_zero.trans (State.segmentBuilt hs).tcp.flagByte)
  refine ⟨built.eth, built.ip, built.tcp, (State.ipSealed_segmentFinish 0 ok room).of_mem mem,
    (State.tcpSealed_segmentFinish 0 ok room).of_read fun a _ => by rw [mem], ⟨?_, ?_, ?_⟩, built.elsewhere⟩
  · rw [mem, State.rstBody_eq, State.finish_trace, sent, List.append_assoc, List.singleton_append]
  · rw [built.eth.etherType, State.rstBody_eq, State.finish_txProto, sent]
  · rw [State.rstBody_eq, State.finish_txLen, sent]
    rfl

theorem State.rstBody_eq_ends (free : s.txProto = 0) (tail : Tail) :
    s.rstBody tail g = { s.ends tail with
      mem := (s.rstBody tail g).mem, txProto := 0x0800, txLen := 54, trace := (s.rstBody tail g).trace } := by
  obtain ⟨m, tr, sent⟩ : ∃ m tr, (s.rstSegment g).tcpSendFrame 0 =
      { s with mem := m, txProto := 0x0800, txLen := 54, trace := tr } := ⟨_, _, State.tcpSendFrame_rstSegment hs g free⟩
  rw [State.rstBody_eq, sent]
  cases tail <;> rfl

end Rst

/-- The statement reads nothing of the connections and the sequencer of the state before the segment. -/
theorem SegmentSent.of_conns_seq {s t : State} {dest : Word} {sport dport : Half} {seq ack : Word} {flags : Byte}
    {window : Half} {after : List Event} {conns : Vector Conn 16} {q : Sequencer}
    (h : SegmentSent { s with conns := conns, seq := q } t dest sport dport seq ack flags window after) :
    SegmentSent s t dest sport dport seq ack flags window after :=
  { h with eth := { h.eth with }, ip := { h.ip with }, handed := { h.handed with } }

/-- R610, R611: a SYN without a free slot, or without a service on its port, is refused; a claimed slot is released. -/
theorem State.accept_of_refused {s : State} {len : Nat} {conns : Vector Conn 16} (tail : Tail)
    (refused : (∀ i, ¬ s.FreeAt i) ∧ conns = s.conns ∨
      ∃ f, Least s.FreeAt f ∧ (∀ j, ¬ s.Serves j) ∧
        conns = s.conns.set f { s.conn f with
          remoteIp := 0, localPort := s.rx16 36, remotePort := s.rx16 34, localSeq := s.cfg.iss
          remoteSeq := s.rx32 38 + 1, state := .closed, replyPending := false }) :
    s.accept tail (s.parseSegment len) = State.sendRst { s with conns := conns } tail (s.parseSegment len) := by
  rcases refused with ⟨full, rfl⟩ | ⟨f, freeAt, unserved, rfl⟩
  · rw [State.accept, s.freeSlot_eq_none_iff.2 full]
  · have none : s.findService (s.parseSegment len).dport = none := s.findService_eq_none_iff.2 unserved
    rw [State.accept, (s.freeSlot_eq_some_iff f).2 freeAt]
    simp only [none]
    rfl

/-- Settles O44: R610 and R611 by the refusals of `Accept`, R613 by the RST that is sent when the hold has passed. -/
theorem refusedSynGetsRst : Obligations.RefusedSynGetsRst := by
  intro s hs
  refine ⟨fun cmd tail len conns arrives syn unmatched refused => ?_, fun tail g free held => ?_⟩
  · rw [exec_of_unmatched_syn arrives syn unmatched, State.accept_of_refused tail refused, State.sendRst]
    refine ⟨fun free => ?_, fun busy => ⟨s.parseSegment len, ?_, rfl, rfl, rfl, rfl⟩⟩
    · rw [State.holdThen_of_free (s := { s with conns := conns }) free]
      refine ⟨_, rfl, (State.rstBody_segmentSent (s := { s with conns := conns }) hs _ free tail).of_conns_seq, ?_⟩
      refine (State.rstBody_eq_ends (s := { s with conns := conns }) hs _ free tail).trans ?_
      cases tail <;> rfl
    · rw [State.holdThen_of_busy (s := { s with conns := conns }) busy]
  · rw [State.turn, State.resume_of_hold free held]
    refine ⟨_, rfl, (State.rstBody_segmentSent (s := { s with seq := .idle }) hs g free tail).of_conns_seq, ?_⟩
    refine (State.rstBody_eq_ends (s := { s with seq := .idle }) hs g free tail).trans ?_
    cases tail <;> rfl

end Sys2Proof.Machine

/-! ## The replies of a connection while a command is in progress (R611, R612, R616, R617, R840) -/

namespace Sys2Proof.Machine

/-! ### What a send does to a ready reply (R404, R660) -/

/-- R660: a segment without data takes no sequence number. -/
theorem State.tcpSend_zero (r : State) (i : Slot) :
    r.tcpSend i 0 = (r.tcpSendFrame 0).setConn i { r.conn i with replyPending := false } := by
  rw [State.tcpSend, BitVec.add_zero]

section Reply

variable {s r t : State} {i : Slot} {flags : Byte} {tail : Tail}

/-- R404: a built reply has an EtherType, so only a pending one may not be sent. -/
theorem ReplyReady.etherType_ne_zero_iff (h : ReplyReady s r i flags) : r.tx16 12 ≠ 0 ↔ s.CanReply i := by
  cases pending : (s.conn i).replyPending with
  | false => simp [State.CanReply, pending, (h.built pending).eth.etherType]
  | true => simp [State.CanReply, pending, h.etherType_of_pending pending]

/-- R404: after the send the TX buffer is busy unless the reply was only logged. -/
theorem ReplyReady.txProto_tcpSendFrame_ne_zero_iff (h : ReplyReady s r i flags) (hs : s.Ok) (free : s.txProto = 0) :
    (r.tcpSendFrame 0).txProto ≠ 0 ↔ s.CanReply i := by
  rw [← h.etherType_ne_zero_iff]
  by_cases etherType : r.tx16 12 = 0
  · rw [State.tcpSendFrame_of_etherType_zero 0 (h.ok hs) etherType]
    exact iff_of_false (not_not.2 (h.txProto.trans free)) (not_not.2 etherType)
  · rw [State.tcpSendFrame_of_etherType_ne_zero (h.ok hs) etherType]

/-- R650, R660: whatever the command that has sent the reply does to its own registers, nothing else changes. -/
theorem ReplyReady.sendFrameRule_of_eq (h : ReplyReady s r i flags) (hs : s.Ok) (free : s.txProto = 0) {c : Conn}
    (ht : t = { (r.tcpSendFrame 0).setConn i c with
      trace := t.trace, seq := t.seq, rxLen := t.rxLen, rxArmed := t.rxArmed, result := t.result, done := t.done }) :
    SendFrameRule s t i := by
  obtain ⟨u, sent⟩ : ∃ u, u = r.tcpSendFrame 0 := ⟨_, rfl⟩
  have all := h.tcpSendFrame_eq hs free sent
  rw [← sent] at ht
  clear sent
  have conn : t.conn i = c := by rw [ht]; exact u.conn_setConn_self i c
  have mem : t.mem = u.mem := by rw [ht]; rfl
  have txProto : t.txProto = u.txProto := by rw [ht]; rfl
  have txLen : t.txLen = u.txLen := by rw [ht]; rfl
  rw [SendFrameRule, conn, mem, txProto, txLen]
  generalize t.trace = tr, t.seq = q, t.rxLen = rl, t.rxArmed = ra, t.result = re, t.done = d at *
  subst ht
  generalize u.mem = m, u.txProto = p, u.txLen = l at *
  rw [all]
  simp [State.setConn]

/-- R404, R410: the reply is sent, and the receive command ends. -/
theorem ReplyReady.finish (h : ReplyReady s r i flags) (hs : s.Ok) (free : s.txProto = 0) (c : Conn) (tail : Tail)
    (ht : t = ((r.tcpSendFrame 0).setConn i c).finish tail) :
    ReplySent s t i flags tail.events ∧ SendFrameRule s t i ∧ t.conn i = c ∧ t.seq = s.seq ∧ EndedAs s t tail := by
  have all := h.tcpSendFrame_eq hs free rfl
  subst ht
  refine ⟨h.replySent hs ?_ ?_ ?_ ?_, h.sendFrameRule_of_eq hs free (c := c) ?_, ?_, ?_,
    s.finish_endedAs tail ?_ ?_⟩
  · rw [State.finish_mem, State.setConn_mem]
  · rw [State.finish_txProto, State.setConn_txProto]
  · rw [State.finish_txLen, State.setConn_txLen]
  · rw [State.finish_trace, State.setConn_trace]
  · cases tail <;> rfl
  · cases tail <;> exact State.conn_setConn_self _ i c
  · rw [State.finish_seq, State.setConn_seq, all]
  · rw [State.setConn_rxLen, all]
  · rw [State.setConn_rxArmed, all]

/-- R616, R617, R840: the reply is sent, and the hold after it suspends the command or lets it end. -/
theorem ReplyReady.replyThenHold (h : ReplyReady s r i flags) (hs : s.Ok) (free : s.txProto = 0) (idle : s.seq = .idle)
    {c d : Conn} {k : HoldK} {body : State → State}
    (goesOn : body ((r.tcpSendFrame 0).setConn i c) = ((r.tcpSendFrame 0).setConn i d).finish tail)
    (ht : t = ((r.tcpSendFrame 0).setConn i c).holdThen k body) :
    ReplyThenHold s t i flags tail k ∧ SendFrameRule s t i ∧ t.conn i = if s.CanReply i then c else d := by
  have busy : ((r.tcpSendFrame 0).setConn i c).txProto ≠ 0 ↔ s.CanReply i :=
    h.txProto_tcpSendFrame_ne_zero_iff hs free
  have all := h.tcpSendFrame_eq hs free rfl
  by_cases can : s.CanReply i
  · rw [State.holdThen_of_busy (busy.2 can)] at ht
    have conn : t.conn i = c := by rw [ht]; exact State.conn_setConn_self _ i c
    refine ⟨⟨?_, fun _ => ?_, fun cannot => absurd can cannot⟩, h.sendFrameRule_of_eq hs free (c := c) ?_, ?_⟩
    · rw [if_pos can]
      refine h.replySent hs ?_ ?_ ?_ ?_ <;> rw [ht]
      · rfl
      · rfl
      · rfl
      · exact (List.append_nil _).symm
    · rw [ht]
      refine ⟨rfl, ?_, ?_, ?_, ?_⟩ <;> simp only [State.setConn] <;> rw [all]
    · rw [ht]
    · rw [if_pos can, conn]
  · rw [State.holdThen_of_free (not_not.1 (mt busy.1 can)), goesOn] at ht
    obtain ⟨reply, frame, conn, seq, ended⟩ := h.finish hs free d tail ht
    refine ⟨⟨?_, fun can' => absurd can' can, fun _ => ⟨seq.trans idle, ended⟩⟩, frame, ?_⟩
    · rwa [if_neg can]
    · rwa [if_neg can]

end Reply

/-! ### The manager's reply in ESTABLISHED (R616) -/

/-- R616: the reply of connection `i`, ACK or ACK+FIN, not sent yet. -/
def State.estReply (s : State) (fin : Bool) (i : Slot) : State :=
  if fin then (s.tcpAcquire i).txOr 47 tcpFin else s.tcpAcquire i

theorem State.replyReady_estReply {s : State} (hs : s.Ok) (fin : Bool) (i : Slot) :
    ReplyReady s (s.estReply fin i) i (if fin then 0x01 else 0x00) := by
  cases fin with
  | true => exact State.replyReady_closeReply hs i
  | false => exact State.replyReady_tcpAcquire hs i

/-- R616: what the manager's reply leaves of its connection. -/
def Conn.replied (c : Conn) (fin : Bool) : Conn :=
  { c with state := if fin then .closeWait else c.state, replyPending := false }

theorem State.estReplyBody_eq (s : State) (tail : Tail) (g : Segment) (i : Slot) :
    s.estReplyBody tail g i = (((s.estReply g.fin i).tcpSendFrame 0).setConn i ((s.conn i).replied g.fin)).holdThen
      (.estDone tail g i) fun s => s.estDoneBody tail := by
  rw [State.estReplyBody, State.estReply, Conn.replied]
  cases g.fin with
  | true =>
    have conn : ((s.tcpAcquire i).txOr 47 tcpFin).conn i = _ := s.conn_closeReply i
    simp only [if_true, State.setTcpState, State.tcpSend_zero, State.tcpSendFrame_setConn, State.setConn_setConn,
      State.conn_setConn_self, conn]
  | false =>
    simp only [Bool.false_eq_true, if_false, State.tcpSend_zero, State.conn_tcpAcquire]

/-- R616: what the manager's first hold leaves of `s` when it has passed. -/
theorem State.estReplyBody_replied {s : State} (hs : s.Ok) (free : s.txProto = 0) (idle : s.seq = .idle) (tail : Tail)
    (g : Segment) (i : Slot) :
    ReplyThenHold s (s.estReplyBody tail g i) i (if g.fin then 0x01 else 0x00) tail (.estDone tail g i) ∧
      SendFrameRule s (s.estReplyBody tail g i) i ∧
      (s.estReplyBody tail g i).conn i = (s.conn i).replied g.fin := by
  have replied := (State.replyReady_estReply hs g.fin i).replyThenHold hs free idle (d := (s.conn i).replied g.fin) rfl
    (s.estReplyBody_eq tail g i)
  rwa [ite_self] at replied

/-! ### The reply in FIN_WAIT_1 (R617) -/

theorem State.finReplyBody_eq (s : State) (tail : Tail) (g : Segment) (i : Slot) :
    s.finReplyBody tail g i = (((s.tcpAcquire i).tcpSendFrame 0).setConn i
      { s.conn i with replyPending := false }).holdThen (.finDone tail g i) fun s => s.finDoneBody tail i := by
  rw [State.finReplyBody, State.tcpSend_zero, State.conn_tcpAcquire]

/-- R617: what the first hold leaves of `s` when it has passed. -/
theorem State.finReplyBody_replied {s : State} (hs : s.Ok) (free : s.txProto = 0) (idle : s.seq = .idle) (tail : Tail)
    (g : Segment) (i : Slot) :
    ReplyThenHold s (s.finReplyBody tail g i) i 0x00 tail (.finDone tail g i) ∧
      SendFrameRule s (s.finReplyBody tail g i) i ∧
      (s.finReplyBody tail g i).conn i = { s.conn i with
        replyPending := false, state := if s.CanReply i then (s.conn i).state else .closing } := by
  obtain ⟨reply, frame, conn⟩ := (State.replyReady_tcpAcquire hs i).replyThenHold hs free idle
    (d := { s.conn i with replyPending := false, state := .closing })
    (by rw [State.finDoneBody, State.setTcpState, State.setConn_setConn, State.conn_setConn_self])
    (s.finReplyBody_eq tail g i)
  refine ⟨reply, frame, conn.trans ?_⟩
  split <;> rfl

/-! ### Resumed commands -/

/-- The statement reads nothing of the sequencer of the state before the reply. -/
theorem ReplyThenHold.of_seq {s t : State} {i : Slot} {flags : Byte} {tail : Tail} {k : HoldK} {q : Sequencer}
    (h : ReplyThenHold { s with seq := q } t i flags tail k) : ReplyThenHold s t i flags tail k where
  reply := ReplySent.of_suspended (q := q) (done := s.done) (retval := s.cbRetval) (kind := s.cbKind) h.reply
  held := h.held
  passed cannot := by
    have passed := h.passed cannot
    cases tail <;> exact passed

/-- R612: what the SYN+ACK leaves of `s` when the hold before it has passed. -/
theorem State.synAckBody_sent {s : State} (hs : s.Ok) (free : s.txProto = 0) (idle : s.seq = .idle) (tail : Tail)
    (f : Slot) :
    ReplySent s (s.synAckBody tail f) f 0x02 tail.events ∧ SendFrameRule s (s.synAckBody tail f) f ∧
      (s.synAckBody tail f).conn f = { s.conn f with replyPending := false } ∧ (s.synAckBody tail f).seq = .idle ∧
      EndedAs s (s.synAckBody tail f) tail := by
  have conn := (((s.tcpAcquire f).txOr_txOnly 47 tcpSyn).conn f).trans (s.conn_tcpAcquire f)
  have sent := ((State.replyReady_tcpAcquire hs f).txOr hs tcpSyn).finish hs free { s.conn f with replyPending := false }
    tail (t := s.synAckBody tail f) (by rw [State.synAckBody, State.tcpSend_zero, conn])
  rwa [idle] at sent

/-- Settles O43: R612 after the callback and after the hold. -/
theorem synAckSent : Obligations.SynAckSent := by
  intro s tail g f hs free
  refine ⟨fun v waits => ?_, fun held => ?_⟩
  · obtain ⟨reply, frame, conn, seq, ended⟩ :=
      State.synAckBody_sent (s := s.callbackReturn v) hs free rfl tail f
    rw [exec_cbRet_of_cbWait waits]
    refine ⟨_, congrArg Host.Outcome.next (State.holdThen_of_free (s := s.callbackReturn v) free (.synAck tail g f)
      fun s => s.synAckBody tail f), ?_⟩
    generalize (s.callbackReturn v).synAckBody tail f = t at *
    have sent := ReplySent.of_suspended (s := { s with cbRetval := v, cbKind := .none }) (q := .idle) (done := true)
      (retval := v) (kind := .none) reply
    exact ⟨sent, frame, conn, seq, by cases tail <;> exact ended⟩
  · obtain ⟨reply, frame, conn, seq, ended⟩ :=
      State.synAckBody_sent (s := { s with seq := .idle }) hs free rfl tail f
    rw [State.turn, State.resume_of_hold free held, State.resumeHold]
    generalize State.synAckBody { s with seq := .idle } tail f = t at *
    exact ⟨t, rfl, reply.of_suspended, frame, conn, seq, by cases tail <;> exact ended⟩

/-- Settles O47: R616 after the first hold and after the PROCESS callback. -/
theorem establishedReplies : Obligations.EstablishedReplies := by
  intro s tail g i hs free
  refine ⟨fun held => ?_, fun v waits => ?_⟩
  · obtain ⟨reply, frame, conn⟩ := State.estReplyBody_replied (s := { s with seq := .idle }) hs free rfl tail g i
    rw [State.turn, State.resume_of_hold free held, State.resumeHold]
    generalize State.estReplyBody { s with seq := .idle } tail g i = t at *
    exact ⟨t, rfl, reply.of_seq, frame, conn⟩
  · obtain ⟨reply, frame, conn⟩ := State.estReplyBody_replied (s := s.callbackReturn v) hs free rfl tail g i
    rw [exec_cbRet_of_cbWait waits]
    refine ⟨_, congrArg Host.Outcome.next (State.holdThen_of_free (s := s.callbackReturn v) free (.estReply tail g i)
      fun s => s.estReplyBody tail g i), ?_⟩
    generalize (s.callbackReturn v).estReplyBody tail g i = t at *
    exact ⟨ReplyThenHold.of_seq (q := .idle) reply, frame, conn⟩

/-! ### The segments of ESTABLISHED and FIN_WAIT_1 (R616, R617) -/

section Segments

variable {s : State} {i : Slot} {len : Nat} (tail : Tail)

/-- R616, R617: the connection after the ACK and the data or the FIN of a segment. -/
def State.advanced (s : State) (len : Nat) (i : Slot) : State :=
  s.setConn i { s.acked i with
    remoteSeq := (s.conn i).remoteSeq +
      if s.rxHeaderLen < len then BitVec.ofNat 32 (len - s.rxHeaderLen) else 1 }

theorem State.advanceRemote_acked (s : State) (len : Nat) (i : Slot) :
    (s.setConn i (s.acked i)).setConn i (((s.setConn i (s.acked i)).conn i).advanceRemote (s.parseSegment len)) =
      s.advanced len i := by
  rw [State.setConn_setConn, State.conn_setConn_self, Conn.advanceRemote, State.advance_parseSegment]
  rfl

theorem State.rxEstablished_of_bare (bare : len ≤ s.rxHeaderLen) (noFin : s.rxFin = false) :
    s.rxEstablished tail (s.parseSegment len) i = (s.setConn i (s.acked i)).finish tail := by
  have noData : ¬ (s.parseSegment len).hasData = true := by rw [s.hasData_parseSegment_iff]; omega
  rw [State.rxEstablished, if_neg noData, s.fin_parseSegment, noFin, s.takeAck_parseSegment]
  rfl

theorem State.rxEstablished_of_data (data : s.rxHeaderLen < len) :
    s.rxEstablished tail (s.parseSegment len) i =
      (s.advanced len i).raiseCallback .process i (s.conn i).svc (rxBase + 34 + s.rxHeaderLen) (len - s.rxHeaderLen)
        (.process tail (s.parseSegment len) i) := by
  rw [State.rxEstablished, if_pos ((s.hasData_parseSegment_iff len).2 data), s.takeAck_parseSegment,
    State.advanceRemote_acked, State.headerLen_parseSegment, State.dataLen_parseSegment]

theorem State.rxEstablished_of_fin (bare : len ≤ s.rxHeaderLen) (fin : s.rxFin = true) :
    s.rxEstablished tail (s.parseSegment len) i = (s.advanced len i).afterProcess tail (s.parseSegment len) i := by
  have noData : ¬ (s.parseSegment len).hasData = true := by rw [s.hasData_parseSegment_iff]; omega
  rw [State.rxEstablished, if_neg noData, s.fin_parseSegment, if_pos fin, s.takeAck_parseSegment,
    State.advanceRemote_acked]

theorem State.rxFinWait1_of_fin (fin : s.rxFin = true) :
    s.rxFinWait1 tail (s.parseSegment len) i = (s.advanced len i).holdThen (.finReply tail (s.parseSegment len) i)
      fun s' => s'.finReplyBody tail (s.parseSegment len) i := by
  rw [State.rxFinWait1, s.fin_parseSegment, if_pos fin, s.takeAck_parseSegment, State.advanceRemote_acked]

theorem State.rxFinWait1_of_ack (noFin : s.rxFin = false) (ack : s.rxAck = true) :
    s.rxFinWait1 tail (s.parseSegment len) i = (s.setConn i { s.acked i with state := .closing }).finish tail := by
  rw [State.rxFinWait1, s.fin_parseSegment, noFin, s.ack_parseSegment, ack, s.takeAck_parseSegment,
    if_neg Bool.false_ne_true, if_pos rfl, State.setTcpState, State.setConn_setConn, State.conn_setConn_self]

theorem State.rxFinWait1_of_neither (noFin : s.rxFin = false) (noAck : s.rxAck = false) :
    s.rxFinWait1 tail (s.parseSegment len) i = s.finish tail := by
  have unchanged : s.acked i = s.conn i := by rw [State.acked, noAck]; rfl
  rw [State.rxFinWait1, s.fin_parseSegment, noFin, s.ack_parseSegment, noAck, s.takeAck_parseSegment, unchanged,
    if_neg Bool.false_ne_true, if_neg Bool.false_ne_true, State.setConn, s.conns_set_conn]

end Segments

/-- Settles O46: R616 by the branches on the data and the FIN of the segment. -/
theorem establishedReceives : Obligations.EstablishedReceives := by
  intro s cmd tail len i arrives least established
  rw [exec_of_matched arrives least, State.rxMatched, established]
  refine ⟨fun bare noFin => ?_, fun data => ⟨s.parseSegment len, ?_, s.fin_parseSegment len⟩, fun bare fin => ?_⟩
  · rw [← State.finish_eq_ends]
    exact congrArg Host.Outcome.next (State.rxEstablished_of_bare tail bare noFin)
  · refine congrArg Host.Outcome.next ((State.rxEstablished_of_data tail data).trans ?_)
    rw [State.advanced, if_pos data]
    rfl
  · have advanced : s.advanced len i =
        { s with conns := s.conns.set i { s.acked i with remoteSeq := (s.conn i).remoteSeq + 1 } } := by
      rw [State.advanced, if_neg bare.not_gt]
      rfl
    have received := State.rxEstablished_of_fin (i := i) tail bare fin
    rw [advanced] at received
    intro u
    refine ⟨fun busy => ⟨s.parseSegment len, ?_, (s.fin_parseSegment len).trans fin⟩, fun free hs => ?_⟩
    · exact congrArg Host.Outcome.next (received.trans (State.holdThen_of_busy (s := u) busy _ _))
    · obtain ⟨reply, frame, conn⟩ := State.estReplyBody_replied (s := u) hs free arrives.1 tail (s.parseSegment len) i
      rw [s.fin_parseSegment, fin] at reply conn
      exact ⟨_, s.parseSegment len,
        congrArg Host.Outcome.next (received.trans (State.holdThen_of_free (s := u) free _ _)), reply, frame, conn⟩

/-- Settles O48: R617 by the branches on the flags of the segment, at once and after the hold. -/
theorem finWait1Receives : Obligations.FinWait1Receives := by
  intro s tail i
  refine ⟨fun cmd len arrives least finWait1 => ?_, fun g hs free held => ?_⟩
  · rw [exec_of_matched arrives least, State.rxMatched, finWait1]
    refine ⟨fun noFin ack => ?_, fun noFin noAck => ?_, fun fin => ?_⟩
    · rw [← State.finish_eq_ends]
      exact congrArg Host.Outcome.next (State.rxFinWait1_of_ack tail noFin ack)
    · rw [← State.finish_eq_ends]
      exact congrArg Host.Outcome.next (State.rxFinWait1_of_neither tail noFin noAck)
    · have received := State.rxFinWait1_of_fin (i := i) (len := len) tail fin
      intro u
      refine ⟨fun busy => ⟨s.parseSegment len, ?_⟩, fun free hs => ?_⟩
      · exact congrArg Host.Outcome.next (received.trans (State.holdThen_of_busy (s := u) busy _ _))
      · obtain ⟨reply, frame, conn⟩ := State.finReplyBody_replied (s := u) hs free arrives.1 tail (s.parseSegment len) i
        exact ⟨_, s.parseSegment len,
          congrArg Host.Outcome.next (received.trans (State.holdThen_of_free (s := u) free _ _)), reply, frame, conn⟩
  · obtain ⟨reply, frame, conn⟩ := State.finReplyBody_replied (s := { s with seq := .idle }) hs free rfl tail g i
    rw [State.turn, State.resume_of_hold free held, State.resumeHold]
    generalize State.finReplyBody { s with seq := .idle } tail g i = t at *
    exact ⟨t, g, rfl, reply.of_seq, frame, conn⟩

end Sys2Proof.Machine
